-- ==== Sys2Proof/Word.lean ====
section
/-! DEFINITION. The word types of the block (00_scope.md R8): bytes of the packet. Samples and thresholds are
`BitVec SW` in registers and on pins, and signed integers (`Int`) in the pseudocode; counters are `BitVec CW`. -/

namespace Sys2Proof

/-- One byte of the packet (20_memory.md R62). -/
abbrev Byte := BitVec 8

end Sys2Proof
end

