-- ==== Sys2Proof/Config.lean ====
section
/-! DEFINITION. What an implementation fixes (00_scope.md R6) and the one free value of the model. -/

namespace Sys2Proof

/-- `SW`, the width of a sample and of each threshold, at its default (00_scope.md R6, decision D3).
DESIGN CHOICE: the machine `State` is the block at the default; the operations are written for every width. Log entry 1. -/
abbrev Config.sw : Nat := 16

/-- `CW`, the width of every run-length counter and duration register, at its default (00_scope.md R6, decision D4).
DESIGN CHOICE: as `Config.sw`. Log entry 1. -/
abbrev Config.cw : Nat := 32

/-- The constraints on the two parameters (00_scope.md R6; 93_implementation_defined.md U4: outside them, refuse). -/
abbrev Config.Legal (sw cw : Nat) : Prop := 2 ≤ sw ∧ 4 ≤ cw

/-- The width `3*SW + 7` of the input vector `IN` (30_encoding.md R80). -/
abbrev Config.inWidth (sw : Nat) : Nat := 3 * sw + 7

/-- An input vector at the default `SW`: 55 bits (30_encoding.md R80). -/
abbrev InVector := BitVec (Config.inWidth Config.sw)

/-- FREE VALUE. What the outside agents drive on the input pins at an edge for which `State.input` lists no vector; the
argument is `State.tick`. The spec says that every pin is sampled at every edge (70_reset_and_hazards.md R220) and leaves
what the agents drive to them (20_memory.md R75), so nothing constrains it. DESIGN CHOICE, safe for claims about one run:
log entry 3. -/
opaque Config.undrivenPins : Nat → InVector

end Sys2Proof
end

