-- ==== Sys2Proof/Syntax.lean ====
section
/-! DEFINITION. The operation set WFD-ops 1.0: one constructor per row of spec/opcode_table.json (30_encoding.md R81, R82,
R91), and the input pins of 30_encoding.md R80 as a record. -/

namespace Sys2Proof

/-- The fourteen rows of the opcode table, in the table's order. Six operations (30_encoding.md R81), then the eight
sub-operations of `SMP` and `END` (R82), which have the words of `SMP` and `END` and are told apart by `PHASE` alone. -/
inductive Instr where
  /-- `RST` (40_control_ops.md R100). -/
  | rst
  /-- `START` (40_control_ops.md R101), operands `cfg_vhigh`, `cfg_vlow`, `cfg_reverse`, `cfg_invert`, `cfg_verbose`. -/
  | start (vh vl : BitVec Config.sw) (rev inv verb : Bool)
  /-- `SMPE` (40_control_ops.md R108), operand `s_data`. -/
  | smpe (d : BitVec Config.sw)
  /-- `END` (40_control_ops.md R111). -/
  | endOp
  /-- `SMP` (40_control_ops.md R110), operand `s_data`. -/
  | smp (d : BitVec Config.sw)
  /-- `NOP` (40_control_ops.md R102). -/
  | nop
  /-- `SMP.PH1` (41_preamble_detector.md R120, R121). -/
  | smpPh1 (d : BitVec Config.sw)
  /-- `SMP.PH2` (41_preamble_detector.md R122 to R124). -/
  | smpPh2 (d : BitVec Config.sw)
  /-- `SMP.PH3` (42_pulse_classifier.md R140, R141). -/
  | smpPh3 (d : BitVec Config.sw)
  /-- `SMP.X` (40_control_ops.md R103). -/
  | smpX (d : BitVec Config.sw)
  /-- `END.PH1` (40_control_ops.md R104). -/
  | endPh1
  /-- `END.PH2` (40_control_ops.md R105). -/
  | endPh2
  /-- `END.PH3` (40_control_ops.md R106). -/
  | endPh3
  /-- `END.X` (40_control_ops.md R107). -/
  | endX
  deriving DecidableEq, Repr

/-- The input pins except `clk`, sampled at one rising edge, for any `SW` (30_encoding.md R80; decision D2). -/
structure Pins (sw : Nat) where
  sData : BitVec sw
  cfgVhigh : BitVec sw
  cfgVlow : BitVec sw
  cfgReverse : Bool
  cfgInvert : Bool
  cfgVerbose : Bool
  sValid : Bool
  sEnd : Bool
  start : Bool
  rst : Bool
  deriving DecidableEq, Repr

end Sys2Proof
end

