-- ==== Sys2Proof/WellFormed.lean ====
section
/-! DEFINITION. Which instructions an input vector can select by its bits alone. -/

namespace Sys2Proof

/-- An instruction is well formed if it is one of the six operations of 30_encoding.md R81. A sub-operation is selected by
`PHASE`, "state, not encoding" (R82), so no vector decodes to one. Every operand field is a pin field taken whole (R84):
there is no operand to check. -/
def Instr.wellFormed : Instr → Bool
  | .rst => true
  | .start _ _ _ _ _ => true
  | .smpe _ => true
  | .endOp => true
  | .smp _ => true
  | .nop => true
  | .smpPh1 _ => false
  | .smpPh2 _ => false
  | .smpPh3 _ => false
  | .smpX _ => false
  | .endPh1 => false
  | .endPh2 => false
  | .endPh3 => false
  | .endX => false

end Sys2Proof
end

