-- ==== Sys2Proof/Decode.lean ====
section
/-! DEFINITION. From an input vector to its operation (30_encoding.md R80, R81) and back (R88). Decoding is total on input
vectors: "No value of IN is illegal and none traps" (R86). -/

namespace Sys2Proof

/-! ## Pins and vector (R80), for every `SW` -/

/-- The fields of an input vector (30_encoding.md R80, column "bits (general)"). -/
def Pins.ofVector {sw : Nat} (v : BitVec (Config.inWidth sw)) : Pins sw where
  sData := v.extractLsb' 0 sw
  cfgVhigh := v.extractLsb' sw sw
  cfgVlow := v.extractLsb' (2 * sw) sw
  cfgReverse := v.getLsbD (3 * sw)
  cfgInvert := v.getLsbD (3 * sw + 1)
  cfgVerbose := v.getLsbD (3 * sw + 2)
  sValid := v.getLsbD (3 * sw + 3)
  sEnd := v.getLsbD (3 * sw + 4)
  start := v.getLsbD (3 * sw + 5)
  rst := v.getLsbD (3 * sw + 6)

/-- `x` placed with its bit 0 at bit `lo` of an otherwise zero input vector. -/
def fieldAt {w : Nat} (sw : Nat) (x : BitVec w) (lo : Nat) : BitVec (Config.inWidth sw) :=
  x.setWidth (Config.inWidth sw) <<< lo

/-- The input vector that the pins form, field by field (30_encoding.md R80). -/
def Pins.toVector {sw : Nat} (p : Pins sw) : BitVec (Config.inWidth sw) :=
  fieldAt sw p.sData 0 ||| fieldAt sw p.cfgVhigh sw ||| fieldAt sw p.cfgVlow (2 * sw)
    ||| fieldAt sw (BitVec.ofBool p.cfgReverse) (3 * sw)
    ||| fieldAt sw (BitVec.ofBool p.cfgInvert) (3 * sw + 1)
    ||| fieldAt sw (BitVec.ofBool p.cfgVerbose) (3 * sw + 2)
    ||| fieldAt sw (BitVec.ofBool p.sValid) (3 * sw + 3)
    ||| fieldAt sw (BitVec.ofBool p.sEnd) (3 * sw + 4)
    ||| fieldAt sw (BitVec.ofBool p.start) (3 * sw + 5)
    ||| fieldAt sw (BitVec.ofBool p.rst) (3 * sw + 6)

/-- The opcode field `CTL = {rst, start, s_end, s_valid}` (30_encoding.md R80). -/
def Pins.ctl {sw : Nat} (p : Pins sw) : BitVec 4 :=
  BitVec.ofBoolListBE [p.rst, p.start, p.sEnd, p.sValid]

/-! ## Pins of each operation, "Unused fields are encoded as 0" (R88), for every `SW` -/

/-- All pins 0: the operation `NOP` (30_encoding.md R81, R88). -/
def Pins.nop (sw : Nat) : Pins sw where
  sData := 0
  cfgVhigh := 0
  cfgVlow := 0
  cfgReverse := false
  cfgInvert := false
  cfgVerbose := false
  sValid := false
  sEnd := false
  start := false
  rst := false

/-- The pins of `RST`. -/
def Pins.ofRst (sw : Nat) : Pins sw := { Pins.nop sw with rst := true }

/-- The pins of `START vh, vl, rev, inv, verb`. -/
def Pins.ofStart {sw : Nat} (vh vl : BitVec sw) (rev inv verb : Bool) : Pins sw :=
  { Pins.nop sw with
    cfgVhigh := vh, cfgVlow := vl, cfgReverse := rev, cfgInvert := inv, cfgVerbose := verb, start := true }

/-- The pins of `SMP d`. -/
def Pins.ofSmp {sw : Nat} (d : BitVec sw) : Pins sw := { Pins.nop sw with sData := d, sValid := true }

/-- The pins of `END`. -/
def Pins.ofEnd (sw : Nat) : Pins sw := { Pins.nop sw with sEnd := true }

/-- The pins of `SMPE d`. -/
def Pins.ofSmpe {sw : Nat} (d : BitVec sw) : Pins sw :=
  { Pins.nop sw with sData := d, sValid := true, sEnd := true }

/-! ## Operation selection (R81) -/

/-- The operation that the pins select, by the priority `rst > start > (s_valid, s_end)` (30_encoding.md R81). -/
def Pins.operation (p : Pins Config.sw) : Instr :=
  if p.rst then .rst
  else if p.start then .start p.cfgVhigh p.cfgVlow p.cfgReverse p.cfgInvert p.cfgVerbose
  else if p.sEnd && p.sValid then .smpe p.sData
  else if p.sEnd then .endOp
  else if p.sValid then .smp p.sData
  else .nop

/-- The operation of an input vector: total, nothing is refused (30_encoding.md R81, R86). -/
def decode (v : InVector) : Instr := (Pins.ofVector v).operation

/-- Why a number is not an input vector. Raised by `decodeNat` only; safe: no pin holds such a bit. -/
inductive DecodeError where
  /-- The number has a bit above bit 54: there is no such input pin (30_encoding.md R80). Log entry 7. -/
  | widerThanInputVector
  deriving DecidableEq, Repr

/-- The operation of a number read as the bits of `IN`; a number with a bit above bit 54 is no input vector and is rejected
by name. -/
def decodeNat (w : Nat) : Except DecodeError Instr :=
  if w < 2 ^ Config.inWidth Config.sw then .ok (decode (BitVec.ofNat _ w))
  else .error .widerThanInputVector

/-- The instruction the decoder reads from an instruction whose low `nbits` bits are `w` and whose other bits are 0,
numbered as spec/opcode_table.json numbers them (bit 0 the least significant bit of `IN`). The input vector is one word:
there is no order of words or bytes to lay out (30_encoding.md R87). -/
def decodeTableWord (nbits w : Nat) : Option Instr :=
  match decodeNat (w % 2 ^ nbits) with
  | .ok i => some i
  | .error _ => none

/-! ## Encoder -/

/-- The operation of 30_encoding.md R81 to which an instruction's words belong: a sub-operation has the words of `SMP` or
`END` (R82, R91). -/
def Instr.operation : Instr → Instr
  | .rst => .rst
  | .start vh vl rev inv verb => .start vh vl rev inv verb
  | .smpe d => .smpe d
  | .endOp => .endOp
  | .smp d => .smp d
  | .nop => .nop
  | .smpPh1 d => .smp d
  | .smpPh2 d => .smp d
  | .smpPh3 d => .smp d
  | .smpX d => .smp d
  | .endPh1 => .endOp
  | .endPh2 => .endOp
  | .endPh3 => .endOp
  | .endX => .endOp

/-- The pins that select an instruction (30_encoding.md R81, R88). -/
def Instr.pins : Instr → Pins Config.sw
  | .rst => Pins.ofRst _
  | .start vh vl rev inv verb => Pins.ofStart vh vl rev inv verb
  | .smpe d => Pins.ofSmpe d
  | .endOp => Pins.ofEnd _
  | .smp d => Pins.ofSmp d
  | .nop => Pins.nop _
  | .smpPh1 d => Pins.ofSmp d
  | .smpPh2 d => Pins.ofSmp d
  | .smpPh3 d => Pins.ofSmp d
  | .smpX d => Pins.ofSmp d
  | .endPh1 => Pins.ofEnd _
  | .endPh2 => Pins.ofEnd _
  | .endPh3 => Pins.ofEnd _
  | .endX => Pins.ofEnd _

/-- The input vector of an instruction, unused fields 0 (30_encoding.md R80, R88). -/
def encode (i : Instr) : InVector := i.pins.toVector

/-! ## The opcode table's columns -/

/-- Column `mask` of spec/opcode_table.json (30_encoding.md R91). -/
def Instr.rowMask : Instr → InVector
  | .rst => 0x40000000000000#55
  | .start _ _ _ _ _ => 0x60000000000000#55
  | .smpe _ => 0x78000000000000#55
  | .endOp => 0x78000000000000#55
  | .smp _ => 0x78000000000000#55
  | .nop => 0x78000000000000#55
  | .smpPh1 _ => 0x78000000000000#55
  | .smpPh2 _ => 0x78000000000000#55
  | .smpPh3 _ => 0x78000000000000#55
  | .smpX _ => 0x78000000000000#55
  | .endPh1 => 0x78000000000000#55
  | .endPh2 => 0x78000000000000#55
  | .endPh3 => 0x78000000000000#55
  | .endX => 0x78000000000000#55

/-- Column `match` of spec/opcode_table.json (30_encoding.md R91). -/
def Instr.rowMatch : Instr → InVector
  | .rst => 0x40000000000000#55
  | .start _ _ _ _ _ => 0x20000000000000#55
  | .smpe _ => 0x18000000000000#55
  | .endOp => 0x10000000000000#55
  | .smp _ => 0x08000000000000#55
  | .nop => 0x00000000000000#55
  | .smpPh1 _ => 0x08000000000000#55
  | .smpPh2 _ => 0x08000000000000#55
  | .smpPh3 _ => 0x08000000000000#55
  | .smpX _ => 0x08000000000000#55
  | .endPh1 => 0x10000000000000#55
  | .endPh2 => 0x10000000000000#55
  | .endPh3 => 0x10000000000000#55
  | .endX => 0x10000000000000#55

/-- The bits of `IN` that are operand fields of an instruction: the letters of column `encoding` of
spec/opcode_table.json that are neither 0, 1 nor `x` (30_encoding.md R91). -/
def Instr.rowOperands : Instr → InVector
  | .rst => 0x00000000000000#55
  | .start _ _ _ _ _ => 0x07FFFFFFFF0000#55
  | .smpe _ => 0x0000000000FFFF#55
  | .endOp => 0x00000000000000#55
  | .smp _ => 0x0000000000FFFF#55
  | .nop => 0x00000000000000#55
  | .smpPh1 _ => 0x0000000000FFFF#55
  | .smpPh2 _ => 0x0000000000FFFF#55
  | .smpPh3 _ => 0x0000000000FFFF#55
  | .smpX _ => 0x0000000000FFFF#55
  | .endPh1 => 0x00000000000000#55
  | .endPh2 => 0x00000000000000#55
  | .endPh3 => 0x00000000000000#55
  | .endX => 0x00000000000000#55

end Sys2Proof
end

