-- ==== Sys2Proof/Machine/State.lean ====
section
/-! DEFINITION. The architectural state (10_state.md): the twenty registers of R20 and nothing else of the block's (R21),
and beside them the model's own stand-in for the outside agents. -/

namespace Sys2Proof.Machine

/-- The six values of `PHASE` (10_state.md R22). Values 6 and 7 are unreachable and not representable
(93_implementation_defined.md U2; log entry 5). -/
inductive Phase where
  /-- 0: after reset, no frame started. -/
  | idle
  /-- 1: preamble start detection. -/
  | ph1
  /-- 2: preamble end detection and calibration. -/
  | ph2
  /-- 3: payload scan. -/
  | ph3
  /-- 4: frame ended without error. -/
  | done
  /-- 5: frame aborted by an error. -/
  | err
  deriving DecidableEq, Repr

/-- The four values of `ERR_CODE` (10_state.md R25). -/
inductive ErrCode where
  /-- 0: no error. -/
  | none
  /-- 1: CalibrationError. -/
  | calibration
  /-- 2: InputError. -/
  | input
  /-- 3: RangeError. -/
  | range
  deriving DecidableEq, Repr

/-- The three errors that `raise` takes (60_exceptions.md R190): "three synchronous errors and no others". -/
inductive WfdError where
  | calibrationError
  | inputError
  | rangeError
  deriving DecidableEq, Repr

/-- The twenty state registers, in the order of their numbers (10_state.md R20), for any `SW` and `CW`. -/
structure Regs (sw cw : Nat) where
  /-- x[0] `PHASE` (R22). -/
  phase : Phase
  /-- x[1] `ERR_CODE` (R25). -/
  errCode : ErrCode
  /-- x[2] `VHIGH`, signed (R26). -/
  vhigh : BitVec sw
  /-- x[3] `VLOW`, signed (R26). -/
  vlow : BitVec sw
  /-- x[4] `CTRL`: bit 0 `REV`, bit 1 `INV`, bit 2 `VERB` (R27). -/
  ctrl : BitVec 3
  /-- x[5] `PRE_START` (R29). -/
  preStart : BitVec cw
  /-- x[6] `PRE_SIZE` (R30). -/
  preSize : BitVec cw
  /-- x[7] `PRE_END` (R31). -/
  preEnd : BitVec cw
  /-- x[8] `SHORT` (R32). -/
  short : BitVec cw
  /-- x[9] `LONG` (R33). -/
  long : BitVec cw
  /-- x[10] `RUN` (R34). -/
  run : BitVec cw
  /-- x[11] `START_SEEN` (R36). -/
  startSeen : Bool
  /-- x[12] `ACC` (R39). -/
  acc : BitVec 8
  /-- x[13] `BITCNT` (R39). -/
  bitcnt : BitVec 3
  /-- x[14] `BYTE_COUNT` (R35). -/
  byteCount : BitVec cw
  /-- x[15] `DIAG_SAT` (R37). -/
  diagSat : Bool
  /-- x[16] `B_VALID` (R38). -/
  bValid : Bool
  /-- x[17] `B_DATA` (R39). -/
  bData : BitVec 8
  /-- x[18] `SYM_VALID` (R38). -/
  symValid : Bool
  /-- x[19] `SYM` (R39). -/
  sym : Bool
  deriving DecidableEq, Repr

/-- The registers right after `RST`: "every register of rule R20 is 0" (10_state.md R45). -/
def Regs.reset (sw cw : Nat) : Regs sw cw where
  phase := .idle
  errCode := .none
  vhigh := 0
  vlow := 0
  ctrl := 0
  preStart := 0
  preSize := 0
  preEnd := 0
  short := 0
  long := 0
  run := 0
  startSeen := false
  acc := 0
  bitcnt := 0
  byteCount := 0
  diagSat := false
  bValid := false
  bData := 0
  symValid := false
  sym := false

/-- The machine: the twenty registers at the default widths, and two fields of the MODEL that stand for the outside agents
of 20_memory.md R75. -/
structure State extends Regs Config.sw Config.cw where
  /-- MODEL's own: the input vectors the agents present at the coming edges, the next one first. Log entry 2. -/
  input : List InVector
  /-- MODEL's own: how many edges so far found `input` empty; the index of the free value `Config.undrivenPins`.
  Log entry 3. -/
  tick : Nat
  deriving DecidableEq, Repr

/-- Why the machine stops with a fault: never. The block's errors are states (60_exceptions.md R197), every operation is
total (30_encoding.md R86), so there is no constructor. Safe. Log entry 9. -/
inductive Fault where
  deriving DecidableEq, Repr

/-- Why the machine refuses an instruction. -/
inductive Refusal where
  /-- Raised by an arm of `exec` whose instruction has no meaning yet; no arm raises it now. Safe: the machine stops. -/
  | notModelled (mnemonic : String)
  deriving DecidableEq, Repr

/-- The machine right after reset (10_state.md R45, 70_reset_and_hazards.md R221), with nothing listed on the pins
(`input` and `tick`: DESIGN CHOICE, log entries 2 to 4). -/
def State.reset : State where
  toRegs := Regs.reset Config.sw Config.cw
  input := []
  tick := 0

end Sys2Proof.Machine
end

