-- ==== Sys2Proof/Machine/Operands.lean ====
section
/-! DEFINITION. Constants, operands, level comparators, register fields and views, output pins. -/

namespace Sys2Proof.Machine

/-! ## Constants of the algorithm (00_scope.md R7; unaudited literals, 93_implementation_defined.md L1, log entry 11) -/

/-- `K_SHORT`. -/
def kShort : Nat := 11

/-- `K_LONG`. -/
def kLong : Nat := 3

/-- `THR_NUM`. -/
def thrNum : Nat := 3

/-- `THR_DEN`. -/
def thrDen : Nat := 5

/-- `CMAX = 2^CW - 1`, the largest value of a counter (00_scope.md R6). -/
def cmax (cw : Nat) : BitVec cw := BitVec.allOnes cw

/-! ## Operands (30_encoding.md R84) -/

/-- The operand of `SMP` and `SMPE`: `sext` of the pin field to the integers (00_scope.md R8, 30_encoding.md R84). -/
def sampleOf {sw : Nat} (d : BitVec sw) : Int := d.toInt

/-! ## Level comparators (41_preamble_detector.md R128) -/

variable {sw cw : Nat}

/-- Phase 1: `v >= VHIGH`, equality counts as high (41_preamble_detector.md R128). -/
def highInPh1 (v : Int) (r : Regs sw cw) : Bool := decide (r.vhigh.toInt ≤ v)

/-- Phase 2: `v <= VLOW`, equality counts as low (41_preamble_detector.md R128). -/
def lowInPh2 (v : Int) (r : Regs sw cw) : Bool := decide (v ≤ r.vlow.toInt)

/-- Phase 3: `v > VHIGH`, equality is not high (41_preamble_detector.md R128). -/
def highInPh3 (v : Int) (r : Regs sw cw) : Bool := decide (r.vhigh.toInt < v)

/-! ## Fields of `CTRL` (10_state.md R27) -/

/-- `CTRL.REV`, bit 0. -/
def Regs.ctrlRev (r : Regs sw cw) : Bool := r.ctrl.getLsbD 0

/-- `CTRL.INV`, bit 1. -/
def Regs.ctrlInv (r : Regs sw cw) : Bool := r.ctrl.getLsbD 1

/-- `CTRL.VERB`, bit 2: stored, read by nothing in the block (10_state.md R28). -/
def Regs.ctrlVerb (r : Regs sw cw) : Bool := r.ctrl.getLsbD 2

/-- `CTRL` from its three fields (10_state.md R27). -/
def ctrlOf (rev inv verb : Bool) : BitVec 3 := BitVec.ofBoolListBE [verb, inv, rev]

/-! ## Numeric codes (10_state.md R22, R25; decision D16) -/

/-- The 3-bit value of `PHASE` (10_state.md R22). -/
def phaseBits : Phase → BitVec 3
  | .idle => 0
  | .ph1 => 1
  | .ph2 => 2
  | .ph3 => 3
  | .done => 4
  | .err => 5

/-- The 2-bit value of `ERR_CODE` (10_state.md R25). -/
def errBits : ErrCode → BitVec 2
  | .none => 0
  | .calibration => 1
  | .input => 2
  | .range => 3

/-- `PHASE ∈ {PH1, PH2, PH3}`: a frame is scanning and samples are consumed (20_memory.md R61). -/
def scanning : Phase → Bool
  | .ph1 => true
  | .ph2 => true
  | .ph3 => true
  | .idle => false
  | .done => false
  | .err => false

/-! ## The register numbers (10_state.md R20) -/

/-- `x[i]`: the bits of register number `i`, read as an unsigned number (10_state.md R20, 00_scope.md R9); the last
line is number 19. -/
def Regs.x (r : Regs sw cw) (i : Fin 20) : Nat :=
  match i.val with
  | 0 => (phaseBits r.phase).toNat
  | 1 => (errBits r.errCode).toNat
  | 2 => r.vhigh.toNat
  | 3 => r.vlow.toNat
  | 4 => r.ctrl.toNat
  | 5 => r.preStart.toNat
  | 6 => r.preSize.toNat
  | 7 => r.preEnd.toNat
  | 8 => r.short.toNat
  | 9 => r.long.toNat
  | 10 => r.run.toNat
  | 11 => r.startSeen.toNat
  | 12 => r.acc.toNat
  | 13 => r.bitcnt.toNat
  | 14 => r.byteCount.toNat
  | 15 => r.diagSat.toNat
  | 16 => r.bValid.toNat
  | 17 => r.bData.toNat
  | 18 => r.symValid.toNat
  | _ => r.sym.toNat

/-! ## Output pins (10_state.md R44) -/

/-- The output pins (10_state.md R44). -/
structure OutPins (cw : Nat) where
  sReady : Bool
  done : Bool
  err : Bool
  errCode : BitVec 2
  phase : BitVec 3
  bValid : Bool
  bData : BitVec 8
  symValid : Bool
  sym : Bool
  preStart : BitVec cw
  preSize : BitVec cw
  preEnd : BitVec cw
  shortDur : BitVec cw
  longDur : BitVec cw
  byteCount : BitVec cw
  diagSat : Bool
  startSeen : Bool
  bitcnt : BitVec 3
  run : BitVec cw
  deriving DecidableEq, Repr

/-- The value of every output pin: a function of the registers alone (10_state.md R44). The configuration latches have no
pin (60_exceptions.md R209). -/
def outPins (r : Regs sw cw) : OutPins cw where
  sReady := scanning r.phase
  done := decide (r.phase = .done)
  err := decide (r.phase = .err)
  errCode := errBits r.errCode
  phase := phaseBits r.phase
  bValid := r.bValid
  bData := r.bData
  symValid := r.symValid
  sym := r.sym
  preStart := r.preStart
  preSize := r.preSize
  preEnd := r.preEnd
  shortDur := r.short
  longDur := r.long
  byteCount := r.byteCount
  diagSat := r.diagSat
  startSeen := r.startSeen
  bitcnt := r.bitcnt
  run := r.run

end Sys2Proof.Machine
end

