-- ==== Sys2Proof/Machine/Flags.lean ====
section
/-! DEFINITION. The flags (10_state.md section 5): the default clear of the strobes, saturation and its sticky flag. -/

namespace Sys2Proof.Machine

variable {sw cw : Nat}

/-- Default clear, the first action of every step: `B_VALID <- 0; SYM_VALID <- 0` (10_state.md R43). -/
def clearStrobes (r : Regs sw cw) : Regs sw cw := { r with bValid := false, symValid := false }

/-- The new value of a counter that is incremented and stays at `CMAX` (10_state.md R40; 42_pulse_classifier.md R140). -/
def satInc (c : BitVec cw) : BitVec cw := if c = cmax cw then c else c + 1

/-- `DIAG_SAT` after `sat_inc` of a diagnostic counter that held `c`: set at `CMAX`, else kept, "sticky inside a frame"
(10_state.md R37, R40). -/
def satFlag (c : BitVec cw) (flag : Bool) : Bool := flag || decide (c = cmax cw)

/-- `sat_inc(PRE_START)` (10_state.md R40, R29). -/
def satIncPreStart (r : Regs sw cw) : Regs sw cw :=
  { r with preStart := satInc r.preStart, diagSat := satFlag r.preStart r.diagSat }

/-- `sat_inc(BYTE_COUNT)` (10_state.md R40, R35). -/
def satIncByteCount (r : Regs sw cw) : Regs sw cw :=
  { r with byteCount := satInc r.byteCount, diagSat := satFlag r.byteCount r.diagSat }

/-- `RUN` counts with silent saturation: no flag (10_state.md R34, 42_pulse_classifier.md R140, R145). -/
def incRun (r : Regs sw cw) : Regs sw cw := { r with run := satInc r.run }

end Sys2Proof.Machine
end

