-- ==== Sys2Proof/Machine/Ops.lean ====
section
/-! DEFINITION. The shared operations: error entry, the way back from it, the emission of symbols and bytes, and the
frame every meaning runs in. The block has no memory (20_memory.md R60), so there is no memory operation. -/

namespace Sys2Proof.Machine

variable {sw cw : Nat}

/-! ## Sequencing, error entry and the exits from `ERR` (60_exceptions.md R197, R203) -/

/-- `code(E)` (60_exceptions.md R197). -/
def errorCode : WfdError → ErrCode
  | .calibrationError => .calibration
  | .inputError => .input
  | .rangeError => .range

/-- `raise E`: `PHASE <- ERR; ERR_CODE <- code(E)`, and "Nothing else is written" (60_exceptions.md R197). That the rest of
the operation is skipped is the shape of each caller: nothing follows a `raise`. -/
def raise (e : WfdError) (r : Regs sw cw) : Regs sw cw := { r with phase := .err, errCode := errorCode e }

/-- `PHASE <- p` (00_scope.md R9, 10_state.md R24). -/
def setPhase (p : Phase) (r : Regs sw cw) : Regs sw cw := { r with phase := p }

/-- `START`'s pseudocode (40_control_ops.md R101): latch the configuration, clear the frame, `PHASE <- PH1`. There is no
return from error: "The only exits from `ERR` (and from `DONE`)" are this and `RST` (60_exceptions.md R203). It writes all
twenty registers (44_frame_function.md R185). -/
def startFrame (vh vl : BitVec sw) (rev inv verb : Bool) (r : Regs sw cw) : Regs sw cw :=
  { r with
    vhigh := vh, vlow := vl, ctrl := ctrlOf rev inv verb
    errCode := .none
    preStart := 0, preSize := 0, preEnd := 0, short := 0, long := 0, run := 0
    startSeen := false, acc := 0, bitcnt := 0, byteCount := 0, diagSat := false
    bValid := false, bData := 0, symValid := false, sym := false
    phase := .ph1 }

/-- `RST`'s pseudocode: every register `<- 0` (40_control_ops.md R100), the other exit from `ERR`. -/
def resetBlock (_ : Regs sw cw) : Regs sw cw := Regs.reset sw cw

/-! ## Emission -/

/-- `emit_sym(b)` (42_pulse_classifier.md R146). -/
def emitSym (b : Bool) (r : Regs sw cw) : Regs sw cw := { r with sym := b, symValid := true }

/-- `emit_byte(v)` (43_frame_reassembler.md R166). -/
def emitByte (v : Byte) (r : Regs sw cw) : Regs sw cw := { r with bData := v, bValid := true }

/-! ## The frame of a meaning -/

/-- One step's work on the registers: the default clear, then the operation's pseudocode (40_control_ops.md R109); what
the agents will present next is untouched. It always ends in a next state (30_encoding.md R86). -/
def operate (f : Regs Config.sw Config.cw → Regs Config.sw Config.cw) (s : State) :
    Host.Outcome State Fault Refusal :=
  .next { s with toRegs := f (clearStrobes s.toRegs) }

/-- A sub-operation asked for by its own name: in the phases its `when` allows it is `own`, in every other phase the same
input vector selects another sub-operation, and that is `dispatched` (30_encoding.md R82, R91). DEDUCED, log entry 6. -/
def whenPhase (allowed : Phase → Bool) (own dispatched : Regs sw cw → Regs sw cw) (r : Regs sw cw) : Regs sw cw :=
  if allowed r.phase then own r else dispatched r

end Sys2Proof.Machine
end

