-- ==== Sys2Proof/Machine/Reassembler.lean ====
section
/-! DEFINITION. The frame-symbol reassembler (43_frame_reassembler.md): START-bit strip, bit accumulator, byte packer. -/

namespace Sys2Proof.Machine

variable {sw cw : Nat}

/-- `bitrev8(v)[i] = v[7-i]` (00_scope.md R9, 43_frame_reassembler.md R165). The list is written most significant bit
first. -/
def bitrev8 (v : Byte) : Byte :=
  BitVec.ofBoolListBE
    [v.getLsbD 0, v.getLsbD 1, v.getLsbD 2, v.getLsbD 3, v.getLsbD 4, v.getLsbD 5, v.getLsbD 6, v.getLsbD 7]

/-- `pack(acc, inv)` (43_frame_reassembler.md R165). -/
def pack (acc : Byte) (inv : Bool) : Byte := if inv then bitrev8 acc else acc

/-- `{ACC[6:0], b}`: the new symbol enters at bit 0, the old bit 7 is lost (43_frame_reassembler.md R162). -/
def shiftIn (acc : Byte) (b : Bool) : Byte := acc.extractLsb' 0 7 ++ BitVec.ofBool b

/-- The eighth symbol of a chunk, `ACC` already holding it: the byte leaves in the same step (43_frame_reassembler.md R160,
R164, R166). -/
def completeByte (r : Regs sw cw) : Regs sw cw :=
  satIncByteCount { emitByte (pack r.acc r.ctrlInv) r with bitcnt := 0 }

/-- `push_symbol(b)` (43_frame_reassembler.md R160 to R164). -/
def pushSymbol (b : Bool) (r : Regs sw cw) : Regs sw cw :=
  if r.startSeen then
    let shifted := { r with acc := shiftIn r.acc b }
    if r.bitcnt = 7 then completeByte shifted
    else { shifted with bitcnt := r.bitcnt + 1 }
  else { r with startSeen := true }

end Sys2Proof.Machine
end

