-- ==== Sys2Proof/Machine/Classifier.lean ====
section
/-! DEFINITION. The pulse-duration classifier (42_pulse_classifier.md). -/

namespace Sys2Proof.Machine

variable {sw cw : Nat}

/-- `is_short(run, long) = (5 * run < 3 * long)`, products exact (42_pulse_classifier.md R142). Run and duration are
numbers, so that the reference function of 44_frame_function.md R180, whose counts are unbounded, uses the same rule. -/
def isShort (run long : Nat) : Bool := decide (thrDen * run < thrNum * long)

/-- `classify(run, long, rev)` (42_pulse_classifier.md R143): symbol 0 is `false`, symbol 1 is `true`. -/
def classify (run long : Nat) (rev : Bool) : Option Bool :=
  if run = 0 then none else some (!(xor (isShort run long) rev))

/-- The end of a pulse run with symbol `b`: `emit_sym(b); push_symbol(b); RUN <- 0` (42_pulse_classifier.md R141). -/
def closeRun (b : Bool) (r : Regs sw cw) : Regs sw cw :=
  { pushSymbol b (emitSym b r) with run := 0 }

/-- `smp_ph3(v)` (42_pulse_classifier.md R140, R141). The test `RUN != 0` is the `None` branch of `classify`: with `RUN = 0`
"nothing happens at all" (R141 corner (a), R148). -/
def smpPh3 (v : Int) (r : Regs sw cw) : Regs sw cw :=
  if highInPh3 v r then incRun r
  else
    match classify r.run.toNat r.long.toNat r.ctrlRev with
    | none => r
    | some b => closeRun b r

end Sys2Proof.Machine
end

