-- ==== Sys2Proof/Machine/Preamble.lean ====
section
/-! DEFINITION. The preamble detector and timing calibrator (41_preamble_detector.md). -/

namespace Sys2Proof.Machine

variable {sw cw : Nat}

/-- The first three lines of `stop_ph2()`: `PRE_END <- min(PRE_START + PRE_SIZE, CMAX)`, and `DIAG_SAT <- 1` where the sum
exceeds `CMAX` (41_preamble_detector.md R124, 10_state.md R31). The sum is a mathematical integer. -/
def recordPreEnd (r : Regs sw cw) : Regs sw cw :=
  if (cmax cw).toNat < r.preStart.toNat + r.preSize.toNat then
    { r with preEnd := cmax cw, diagSat := true }
  else
    { r with preEnd := BitVec.ofNat cw (r.preStart.toNat + r.preSize.toNat) }

/-- The two writes of `calibrate()`, floor division (41_preamble_detector.md R125). -/
def calibrate (r : Regs sw cw) : Regs sw cw :=
  { r with
    short := BitVec.ofNat cw (r.preSize.toNat / kShort)
    long := BitVec.ofNat cw (r.preSize.toNat / kLong) }

/-- The condition of `zero_check()` (41_preamble_detector.md R126). -/
def zeroCheckFails (r : Regs sw cw) : Bool :=
  decide (r.preSize = 0) || decide (r.short = 0) || decide (r.long = 0)

/-- `stop_ph2()`: the stop sample of Phase 2 (41_preamble_detector.md R124). `PRE_END`, `SHORT` and `LONG` are written before
the check; where it raises, `RUN` and `PHASE <- PH3` are skipped. -/
def stopPh2 (r : Regs sw cw) : Regs sw cw :=
  let c := calibrate (recordPreEnd r)
  if zeroCheckFails c then raise .calibrationError c
  else { c with run := 0, phase := .ph3 }

/-- `smp_ph2(v)` (41_preamble_detector.md R122, R123, R124). -/
def smpPh2 (v : Int) (r : Regs sw cw) : Regs sw cw :=
  if lowInPh2 v r then
    if r.preSize = cmax cw then raise .rangeError r
    else { r with preSize := r.preSize + 1 }
  else stopPh2 r

/-- `smp_ph1(v)` (41_preamble_detector.md R120, R121): the sample that ends Phase 1 is given to Phase 2 in the same step. -/
def smpPh1 (v : Int) (r : Regs sw cw) : Regs sw cw :=
  if highInPh1 v r then satIncPreStart r
  else smpPh2 v (setPhase .ph2 r)

end Sys2Proof.Machine
end

