-- ==== Sys2Proof/Machine/Control.lean ====
section
/-! DEFINITION. Dispatch by phase and the end of capture (40_control_ops.md), and the block's step function as its
pseudocode states it (R109). -/

namespace Sys2Proof.Machine

variable {sw cw : Nat}

/-- `smp(v)`: dispatch of a sample by phase (40_control_ops.md R110, R103). -/
def smp (v : Int) (r : Regs sw cw) : Regs sw cw :=
  match r.phase with
  | .ph1 => smpPh1 v r
  | .ph2 => smpPh2 v r
  | .ph3 => smpPh3 v r
  | .idle => r
  | .done => r
  | .err => r

/-- `end_ph1()`: InputError if no sample was accepted, else CalibrationError (40_control_ops.md R104). -/
def endPh1 (r : Regs sw cw) : Regs sw cw :=
  if r.preStart = 0 then raise .inputError r else raise .calibrationError r

/-- `end_ph2()` (40_control_ops.md R105). -/
def endPh2 (r : Regs sw cw) : Regs sw cw := raise .calibrationError r

/-- `end_ph3()`: the open run and the partial chunk stay where they are and are not emitted (40_control_ops.md R106). -/
def endPh3 (r : Regs sw cw) : Regs sw cw := setPhase .done r

/-- `end()`: dispatch of the end of capture by phase (40_control_ops.md R111, R107). -/
def endCapture (r : Regs sw cw) : Regs sw cw :=
  match r.phase with
  | .ph1 => endPh1 r
  | .ph2 => endPh2 r
  | .ph3 => endPh3 r
  | .idle => r
  | .done => r
  | .err => r

/-- `step(IN)`, line by line, for every `SW` and `CW` (40_control_ops.md R109). The machine's step (Machine/Step.lean)
decodes and executes instead; that the two agree is a statement of this package. -/
def clock (p : Pins sw) (r : Regs sw cw) : Regs sw cw :=
  let r := clearStrobes r
  if p.rst then resetBlock r
  else if p.start then startFrame p.cfgVhigh p.cfgVlow p.cfgReverse p.cfgInvert p.cfgVerbose r
  else
    let r := if p.sValid then smp (sampleOf p.sData) r else r
    if p.sEnd then endCapture r else r

/-- The sub-operation that an operation is in a given phase (30_encoding.md R82); an operation without sub-operations is
itself. -/
def subOperation (p : Phase) : Instr → Instr
  | .smp d =>
    match p with
    | .ph1 => .smpPh1 d
    | .ph2 => .smpPh2 d
    | .ph3 => .smpPh3 d
    | .idle => .smpX d
    | .done => .smpX d
    | .err => .smpX d
  | .endOp =>
    match p with
    | .ph1 => .endPh1
    | .ph2 => .endPh2
    | .ph3 => .endPh3
    | .idle => .endX
    | .done => .endX
    | .err => .endX
  | .rst => .rst
  | .start vh vl rev inv verb => .start vh vl rev inv verb
  | .smpe d => .smpe d
  | .nop => .nop
  | .smpPh1 d => .smpPh1 d
  | .smpPh2 d => .smpPh2 d
  | .smpPh3 d => .smpPh3 d
  | .smpX d => .smpX d
  | .endPh1 => .endPh1
  | .endPh2 => .endPh2
  | .endPh3 => .endPh3
  | .endX => .endX

/-! ## Meanings of the control operations -/

/-- `RST` (40_control_ops.md R100). -/
def execRst (s : State) : Host.Outcome State Fault Refusal := operate resetBlock s

/-- `START` (40_control_ops.md R101). -/
def execStart (vh vl : BitVec Config.sw) (rev inv verb : Bool) (s : State) : Host.Outcome State Fault Refusal :=
  operate (startFrame vh vl rev inv verb) s

/-- `NOP`: none beyond the default clear (40_control_ops.md R102). -/
def execNop (s : State) : Host.Outcome State Fault Refusal := operate (fun r => r) s

/-- `SMP` (40_control_ops.md R110). -/
def execSmp (d : BitVec Config.sw) (s : State) : Host.Outcome State Fault Refusal := operate (smp (sampleOf d)) s

/-- `END` (40_control_ops.md R111). -/
def execEnd (s : State) : Host.Outcome State Fault Refusal := operate endCapture s

/-- `SMPE`: `smp`, then `end` in the phase that results, one default clear (40_control_ops.md R108). -/
def execSmpe (d : BitVec Config.sw) (s : State) : Host.Outcome State Fault Refusal :=
  operate (fun r => endCapture (smp (sampleOf d) r)) s

/-- `END.PH1` (40_control_ops.md R104). -/
def execEndPh1 (s : State) : Host.Outcome State Fault Refusal :=
  operate (whenPhase (fun p => decide (p = .ph1)) endPh1 endCapture) s

/-- `END.PH2` (40_control_ops.md R105). -/
def execEndPh2 (s : State) : Host.Outcome State Fault Refusal :=
  operate (whenPhase (fun p => decide (p = .ph2)) endPh2 endCapture) s

/-- `END.PH3` (40_control_ops.md R106). -/
def execEndPh3 (s : State) : Host.Outcome State Fault Refusal :=
  operate (whenPhase (fun p => decide (p = .ph3)) endPh3 endCapture) s

/-- `END.X` (40_control_ops.md R107). -/
def execEndX (s : State) : Host.Outcome State Fault Refusal :=
  operate (whenPhase (fun p => !scanning p) (fun r => r) endCapture) s

end Sys2Proof.Machine
end

