-- ==== Sys2Proof/Machine/Scanning.lean ====
section
/-! DEFINITION. Meanings of the sub-operations of `SMP` (30_encoding.md R82). -/

namespace Sys2Proof.Machine

/-- `SMP.PH1` (41_preamble_detector.md R120, R121). -/
def execSmpPh1 (d : BitVec Config.sw) (s : State) : Host.Outcome State Fault Refusal :=
  operate (whenPhase (fun p => decide (p = .ph1)) (smpPh1 (sampleOf d)) (smp (sampleOf d))) s

/-- `SMP.PH2` (41_preamble_detector.md R122, R123, R124). -/
def execSmpPh2 (d : BitVec Config.sw) (s : State) : Host.Outcome State Fault Refusal :=
  operate (whenPhase (fun p => decide (p = .ph2)) (smpPh2 (sampleOf d)) (smp (sampleOf d))) s

/-- `SMP.PH3` (42_pulse_classifier.md R140, R141). -/
def execSmpPh3 (d : BitVec Config.sw) (s : State) : Host.Outcome State Fault Refusal :=
  operate (whenPhase (fun p => decide (p = .ph3)) (smpPh3 (sampleOf d)) (smp (sampleOf d))) s

/-- `SMP.X`: the sample is not consumed (40_control_ops.md R103). -/
def execSmpX (d : BitVec Config.sw) (s : State) : Host.Outcome State Fault Refusal :=
  operate (whenPhase (fun p => !scanning p) (fun r => r) (smp (sampleOf d))) s

end Sys2Proof.Machine
end

