-- ==== Sys2Proof/Machine/Dispatch.lean ====
section
/-! DEFINITION. One arm per row of spec/opcode_table.json. -/

namespace Sys2Proof.Machine

/-- The meaning of each instruction. -/
def exec (i : Instr) (s : State) : Host.Outcome State Fault Refusal :=
  match i with
  | .rst => Sys2Proof.Machine.execRst s
  | .start vh vl rev inv verb => Sys2Proof.Machine.execStart vh vl rev inv verb s
  | .smpe d => Sys2Proof.Machine.execSmpe d s
  | .endOp => Sys2Proof.Machine.execEnd s
  | .smp d => Sys2Proof.Machine.execSmp d s
  | .nop => Sys2Proof.Machine.execNop s
  | .smpPh1 d => Sys2Proof.Machine.execSmpPh1 d s
  | .smpPh2 d => Sys2Proof.Machine.execSmpPh2 d s
  | .smpPh3 d => Sys2Proof.Machine.execSmpPh3 d s
  | .smpX d => Sys2Proof.Machine.execSmpX d s
  | .endPh1 => Sys2Proof.Machine.execEndPh1 s
  | .endPh2 => Sys2Proof.Machine.execEndPh2 s
  | .endPh3 => Sys2Proof.Machine.execEndPh3 s
  | .endX => Sys2Proof.Machine.execEndX s

end Sys2Proof.Machine
end

