-- ==== Sys2Proof/Machine/Input.lean ====
section
/-! DEFINITION. Sampling the input pins at a clock edge: what stands here for fetching an instruction. -/

namespace Sys2Proof.Machine

/-- The input vector sampled at this edge, and the machine with it taken: the first listed vector, or, where none is
listed, a free value (70_reset_and_hazards.md R220, 20_memory.md R75; log entries 2 and 3). -/
def sampleInput (s : State) : InVector × State :=
  match s.input with
  | v :: rest => (v, { s with input := rest })
  | [] => (Config.undrivenPins s.tick, { s with tick := s.tick + 1 })

/-- The machine with input vector `v` presented at the very next edge, before whatever was listed. -/
def presentNext (v : InVector) (s : State) : State := { s with input := v :: s.input }

end Sys2Proof.Machine
end

