-- ==== Sys2Proof/Machine/Step.lean ====
section
/-! DEFINITION. One step: one rising edge of `clk` (00_scope.md R10). -/

namespace Sys2Proof.Machine

/-- Sample the pins, select the operation, execute it (40_control_ops.md R109, 30_encoding.md R81). -/
def step (s : State) : Host.Outcome State Fault Refusal :=
  exec (decode (sampleInput s).1) (sampleInput s).2

/-- `s` with the input vector whose low `nbits` bits are `w`, the others 0, presented at the next edge, so that the next
step runs it (log entry 2). -/
def State.withFetchWord (s : State) (nbits w : Nat) : State :=
  presentNext (BitVec.ofNat _ (w % 2 ^ nbits)) s

end Sys2Proof.Machine
end

