-- ==== Sys2Proof/Machine/Frame.lean ====
section
/-! DEFINITION. Sequences of steps: the pseudo-operations of 30_encoding.md R89, and the result of a frame
(44_frame_function.md R181). For every `SW` and `CW`. -/

namespace Sys2Proof.Machine

variable {sw cw : Nat}

/-- The registers after a sequence of steps, one input vector each (00_scope.md R10). -/
def runPins (ps : List (Pins sw)) (r : Regs sw cw) : Regs sw cw :=
  match ps with
  | [] => r
  | p :: rest => runPins rest (clock p r)

/-- The `SYM` values of the steps that ended with `SYM_VALID == 1`, in step order (20_memory.md R63). -/
def symbolsOf (ps : List (Pins sw)) (r : Regs sw cw) : List Bool :=
  match ps with
  | [] => []
  | p :: rest =>
    let r' := clock p r
    if r'.symValid then r'.sym :: symbolsOf rest r' else symbolsOf rest r'

/-- The `B_DATA` values of the steps that ended with `B_VALID == 1`, in step order (20_memory.md R62). -/
def bytesOf (ps : List (Pins sw)) (r : Regs sw cw) : List Byte :=
  match ps with
  | [] => []
  | p :: rest =>
    let r' := clock p r
    if r'.bValid then r'.bData :: bytesOf rest r' else bytesOf rest r'

/-- `SMP v xN` (30_encoding.md R89). -/
def smpTimes (v : BitVec sw) (n : Nat) : List (Pins sw) := List.replicate n (Pins.ofSmp v)

/-- `PULSE h xN, l` (30_encoding.md R89). -/
def pulse (h : BitVec sw) (n : Nat) (l : BitVec sw) : List (Pins sw) := smpTimes h n ++ [Pins.ofSmp l]

/-- `FRAME vh, vl, flags, [v0, ..., vn-1]`: one call of the document's `decode` (30_encoding.md R89, 44_frame_function.md
R181). -/
def framePins (vh vl : BitVec sw) (rev inv verb : Bool) (samples : List (BitVec sw)) : List (Pins sw) :=
  Pins.ofStart vh vl rev inv verb :: (samples.map Pins.ofSmp ++ [Pins.ofEnd sw])

/-- `FRAMEL` on the samples `first` followed by `last`: the last sample and the `END` are merged (30_encoding.md R89). -/
def frameLPins (vh vl : BitVec sw) (rev inv verb : Bool) (first : List (BitVec sw)) (last : BitVec sw) :
    List (Pins sw) :=
  Pins.ofStart vh vl rev inv verb :: (first.map Pins.ofSmp ++ [Pins.ofSmpe last])

/-- The result of a frame: "the triple (final `PHASE`, final `ERR_CODE`, list of the `B_DATA` values of the steps that ended
with `B_VALID == 1`, in step order)" (44_frame_function.md R181). -/
structure FrameResult where
  phase : Phase
  errCode : ErrCode
  bytes : List Byte
  deriving DecidableEq, Repr

/-- The result of running the steps `ps` from the registers `r` (44_frame_function.md R181). -/
def frameResult (ps : List (Pins sw)) (r : Regs sw cw) : FrameResult where
  phase := (runPins ps r).phase
  errCode := (runPins ps r).errCode
  bytes := bytesOf ps r

/-- The bytes that a sequence of symbols makes the reassembler emit (43_frame_reassembler.md R160, R168); the strobes are
cleared before each symbol, as every step clears them (10_state.md R43). -/
def pushedBytes (syms : List Bool) (r : Regs sw cw) : List Byte :=
  match syms with
  | [] => []
  | b :: rest =>
    let r' := pushSymbol b (clearStrobes r)
    if r'.bValid then r'.bData :: pushedBytes rest r' else pushedBytes rest r'

/-- The registers after a sequence of symbols has been pushed (43_frame_reassembler.md R160, R168). -/
def pushAll (syms : List Bool) (r : Regs sw cw) : Regs sw cw :=
  match syms with
  | [] => r
  | b :: rest => pushAll rest (pushSymbol b (clearStrobes r))

end Sys2Proof.Machine
end

