-- ==== Sys2Proof/Machine/Reference.lean ====
section
/-! DEFINITION. The document's function `decode`, over integers and unbounded counts (44_frame_function.md R180). It adds no
behaviour to the machine: it is the oracle that 44_frame_function.md R183 compares a frame with. -/

namespace Sys2Proof.Machine

/-- The leading samples `>= vh`: the first loop of `decode_ref`. -/
def refHighs (samples : List Int) (vh : Int) : List Int :=
  samples.takeWhile (fun v => decide (vh ≤ v))

/-- The samples from index `preStart` on, where the second loop starts. -/
def refAfterHighs (samples : List Int) (vh : Int) : List Int :=
  samples.dropWhile (fun v => decide (vh ≤ v))

/-- `preStart`. -/
def refPreStart (samples : List Int) (vh : Int) : Nat := (refHighs samples vh).length

/-- `size`, at which the second loop is left. -/
def refSize (samples : List Int) (vh vl : Int) : Nat :=
  ((refAfterHighs samples vh).takeWhile (fun v => decide (v ≤ vl))).length

/-- The samples from index `preEnd` on: empty where there is no stop sample, else the stop sample first. -/
def refFromStop (samples : List Int) (vh vl : Int) : List Int :=
  (refAfterHighs samples vh).dropWhile (fun v => decide (v ≤ vl))

/-- `preEnd = preStart + size` (decision D8). -/
def refPreEnd (samples : List Int) (vh vl : Int) : Nat :=
  refPreStart samples vh + refSize samples vh vl

/-- The Phase 3 loop: `run` counts, the result lists the symbols in order; a run still open at the end is dropped (D11). -/
def refBits (payload : List Int) (vh : Int) (long : Nat) (rev : Bool) (run : Nat) : List Bool :=
  match payload with
  | [] => []
  | v :: rest =>
    if vh < v then refBits rest vh long rev (run + 1)
    else
      match classify run long rev with
      | none => refBits rest vh long rev 0
      | some b => b :: refBits rest vh long rev 0

/-- The 8-bit value whose bit `7-t` is element `t` of the list, `t = 0..7` (44_frame_function.md R180). -/
def chunkValue (bits : List Bool) (at_ : Nat) : Byte :=
  BitVec.ofBoolListBE
    [bits.getD at_ false, bits.getD (at_ + 1) false, bits.getD (at_ + 2) false, bits.getD (at_ + 3) false,
     bits.getD (at_ + 4) false, bits.getD (at_ + 5) false, bits.getD (at_ + 6) false, bits.getD (at_ + 7) false]

/-- Drop the START bit if there is one, group the rest into chunks of 8, pack each, drop the incomplete chunk
(43_frame_reassembler.md R168, 44_frame_function.md R180, decision D12). -/
def refPacket (bits : List Bool) (inv : Bool) : List Byte :=
  (List.range (bits.tail.length / 8)).map (fun k => pack (chunkValue bits.tail (8 * k)) inv)

/-- What the reference function returns, or the error it fails with. -/
inductive RefOutcome where
  | packet (bytes : List Byte)
  | fails (e : WfdError)
  deriving DecidableEq, Repr

/-- The bits of a capture that calibrates, before the START bit is dropped (44_frame_function.md R180). -/
def refSymbols (samples : List Int) (vh vl : Int) (rev : Bool) : List Bool :=
  refBits (refFromStop samples vh vl).tail vh (refSize samples vh vl / kLong) rev 0

/-- `decode_ref(S, vh, vl, rev, inv)` (44_frame_function.md R180). -/
def decodeRef (samples : List Int) (vh vl : Int) (rev inv : Bool) : RefOutcome :=
  if samples = [] then .fails .inputError
  else if refFromStop samples vh vl = [] then .fails .calibrationError
  else if refSize samples vh vl = 0 ∨ refSize samples vh vl / kShort = 0 ∨ refSize samples vh vl / kLong = 0 then
    .fails .calibrationError
  else .packet (refPacket (refSymbols samples vh vl rev) inv)

end Sys2Proof.Machine
end

