-- ==== Sys2Proof/Safety.lean ====
section
/-! DEFINITION. The terms claims use: the invariants of 10_state.md R47, the record an error leaves (60_exceptions.md R198),
the transition table of `PHASE` (10_state.md R23) and the write table of the registers (10_state.md R46). -/

namespace Sys2Proof.Machine

variable {sw cw : Nat}

/-- The invariants that "hold after every step that follows a `RST`" (10_state.md R47), items 2 to 8. Item 1 (`PHASE` in
0..5, `BITCNT` in 0..7) is the types'. -/
structure Inv (r : Regs sw cw) : Prop where
  errCode_iff : r.phase = .err ↔ r.errCode ≠ .none
  idle_ph1 : r.phase = .idle ∨ r.phase = .ph1 →
    r.preSize = 0 ∧ r.preEnd = 0 ∧ r.short = 0 ∧ r.long = 0 ∧ r.run = 0
  ph2 : r.phase = .ph2 →
    1 ≤ r.preSize.toNat ∧ r.preEnd = 0 ∧ r.short = 0 ∧ r.long = 0 ∧ r.run = 0
  calibrated : r.phase = .ph3 ∨ r.phase = .done →
    11 ≤ r.preSize.toNat ∧ r.short.toNat = r.preSize.toNat / 11 ∧ 1 ≤ r.short.toNat
      ∧ r.long.toNat = r.preSize.toNat / 3 ∧ 3 ≤ r.long.toNat
  no_payload : r.phase ≠ .ph3 → r.phase ≠ .done →
    r.startSeen = false ∧ r.acc = 0 ∧ r.bitcnt = 0 ∧ r.byteCount = 0
      ∧ r.bValid = false ∧ r.bData = 0 ∧ r.symValid = false ∧ r.sym = false
  no_start_bit : r.startSeen = false → r.bitcnt = 0 ∧ r.byteCount = 0 ∧ r.acc = 0
  byte_strobe : r.bValid = true → r.symValid = true ∧ r.bitcnt = 0

/-- What the registers hold in `ERR`, by raise site (60_exceptions.md R198; sites a to d of R191). The registers that the
table does not name are 0 by `Inv` but for `RUN`, which is named here, and the configuration, `PRE_START` and `DIAG_SAT`. -/
def ErrRecord (r : Regs sw cw) : Prop :=
  r.phase = .err →
    r.run = 0 ∧
    ((r.errCode = .calibration ∧ r.preSize.toNat ≤ 10
        ∧ r.preEnd.toNat = min (r.preStart.toNat + r.preSize.toNat) (2 ^ cw - 1)
        ∧ r.short = 0 ∧ r.long.toNat = r.preSize.toNat / 3)
      ∨ (r.errCode = .calibration ∧ 1 ≤ r.preStart.toNat
        ∧ r.preSize = 0 ∧ r.preEnd = 0 ∧ r.short = 0 ∧ r.long = 0)
      ∨ (r.errCode = .calibration ∧ 1 ≤ r.preSize.toNat ∧ r.preEnd = 0 ∧ r.short = 0 ∧ r.long = 0)
      ∨ (r.errCode = .input ∧ r.preStart = 0 ∧ r.preSize = 0 ∧ r.preEnd = 0 ∧ r.short = 0 ∧ r.long = 0
        ∧ r.diagSat = false)
      ∨ (r.errCode = .range ∧ r.preSize = cmax cw ∧ r.preEnd = 0 ∧ r.short = 0 ∧ r.long = 0))

/-- The extra fact `ErrRecord` needs of Phase 1: a saturated leading run is not empty, so `DIAG_SAT` is 0 where
`PRE_START` is 0 (60_exceptions.md R198 last sentence). -/
def Ph1Record (r : Regs sw cw) : Prop := r.phase = .ph1 → r.preStart = 0 → r.diagSat = false

/-- The rows of the `PHASE` transition table for a sample `v` (10_state.md R23), with the error that each names. -/
inductive SmpTransition (v : Int) (r : Regs sw cw) : Phase → ErrCode → Prop where
  | ph1_high : r.phase = .ph1 → r.vhigh.toInt ≤ v → SmpTransition v r .ph1 r.errCode
  | ph1_low : r.phase = .ph1 → v < r.vhigh.toInt → v ≤ r.vlow.toInt → SmpTransition v r .ph2 r.errCode
  | ph1_between : r.phase = .ph1 → v < r.vhigh.toInt → r.vlow.toInt < v → SmpTransition v r .err .calibration
  | ph2_low : r.phase = .ph2 → v ≤ r.vlow.toInt → r.preSize.toNat < 2 ^ cw - 1 → SmpTransition v r .ph2 r.errCode
  | ph2_overflow : r.phase = .ph2 → v ≤ r.vlow.toInt → r.preSize.toNat = 2 ^ cw - 1 → SmpTransition v r .err .range
  | ph2_stop : r.phase = .ph2 → r.vlow.toInt < v → 11 ≤ r.preSize.toNat → SmpTransition v r .ph3 r.errCode
  | ph2_short : r.phase = .ph2 → r.vlow.toInt < v → r.preSize.toNat < 11 → SmpTransition v r .err .calibration
  | ph3 : r.phase = .ph3 → SmpTransition v r .ph3 r.errCode
  | ignored : scanning r.phase = false → SmpTransition v r r.phase r.errCode

/-- The rows of the `PHASE` transition table for the end of the capture (10_state.md R23). -/
inductive EndTransition (r : Regs sw cw) : Phase → ErrCode → Prop where
  | ph1_empty : r.phase = .ph1 → r.preStart = 0 → EndTransition r .err .input
  | ph1_high : r.phase = .ph1 → r.preStart ≠ 0 → EndTransition r .err .calibration
  | ph2 : r.phase = .ph2 → EndTransition r .err .calibration
  | ph3 : r.phase = .ph3 → EndTransition r .done r.errCode
  | ignored : scanning r.phase = false → EndTransition r r.phase r.errCode

/-- The columns of the write table of 10_state.md R46 for a sample: the numbers of the registers that `SMP` in a phase may
write. -/
def smpWrites : Phase → List (Fin 20)
  | .ph1 => [0, 1, 5, 6, 7, 8, 9, 10, 15]
  | .ph2 => [0, 1, 6, 7, 8, 9, 10, 15]
  | .ph3 => [10, 11, 12, 13, 14, 15, 16, 17, 18, 19]
  | .idle => []
  | .done => []
  | .err => []

/-- The register numbers that `END` may write (10_state.md R46). -/
def endWrites : Phase → List (Fin 20)
  | .ph1 => [0, 1]
  | .ph2 => [0, 1]
  | .ph3 => [0]
  | .idle => []
  | .done => []
  | .err => []

/-- The register numbers that an instruction may write in a phase, by 10_state.md R46: the default clear writes the strobes
(numbers 16 and 18) in every step. `operation` answers no
sub-operation, so the last eight arms are never reached. -/
def writes (i : Instr) (p : Phase) : List (Fin 20) :=
  match i.operation with
  | .rst => List.finRange 20
  | .start _ _ _ _ _ => List.finRange 20
  | .smp _ => [16, 18] ++ smpWrites p
  | .endOp => [16, 18] ++ endWrites p
  | .smpe _ => [16, 18] ++ endWrites p ++ smpWrites p
  | .nop => [16, 18]
  | .smpPh1 _ => [16, 18]
  | .smpPh2 _ => [16, 18]
  | .smpPh3 _ => [16, 18]
  | .smpX _ => [16, 18]
  | .endPh1 => [16, 18]
  | .endPh2 => [16, 18]
  | .endPh3 => [16, 18]
  | .endX => [16, 18]

/-- A step that accepts a sample: `SMP` or `SMPE` selected, in a scanning phase (20_memory.md R61). -/
def acceptsSample (p : Pins sw) (r : Regs sw cw) : Bool :=
  !p.rst && !p.start && p.sValid && scanning r.phase

/-- How many of the steps `ps` from `r` accept a sample. -/
def acceptedCount (ps : List (Pins sw)) (r : Regs sw cw) : Nat :=
  match ps with
  | [] => 0
  | p :: rest => (if acceptsSample p r then 1 else 0) + acceptedCount rest (clock p r)

/-- A step without effect beyond the default clear: `NOP`, or a sample or an end of capture outside a scanning phase
(30_encoding.md R86). -/
def withoutEffect (p : Pins sw) (r : Regs sw cw) : Bool :=
  !p.rst && !p.start && ((!p.sEnd && !p.sValid) || !scanning r.phase)

/-- The steps `ps` from `r` less those without effect (20_memory.md R70 item 3). -/
def dropIdleSteps (ps : List (Pins sw)) (r : Regs sw cw) : List (Pins sw) :=
  match ps with
  | [] => []
  | p :: rest =>
    if withoutEffect p r then dropIdleSteps rest (clock p r) else p :: dropIdleSteps rest (clock p r)

end Sys2Proof.Machine
end

