-- ==== Sys2Proof/Certificates/Slice0/Obligations.lean ====
section
/-! DEFINITION. The statements about the machine, one `def Obligations.<Name> : Prop` each, in the order of
OBLIGATIONS.json. Premises are on the state and the operands alone. -/

open Sys2Proof Sys2Proof.Machine

/-! ## Encoding -/

/-- 30_encoding.md R80 for every `SW`: the pins and the input vector determine each other, no bit of the vector is dropped
and no field overlaps another. -/
def Obligations.PinsAndVectorDetermineEachOther : Prop :=
  ∀ sw : Nat, (∀ p : Pins sw, Pins.ofVector p.toVector = p) ∧
    ∀ v : BitVec (Config.inWidth sw), (Pins.ofVector v : Pins sw).toVector = v

/-- 30_encoding.md R81: the six operations by the priority of the control pins, each with the operand fields of R80. -/
def Obligations.DecodeFollowsControlPinPriority : Prop :=
  ∀ v : InVector,
    (v.getLsbD 54 = true → decode v = .rst) ∧
    (v.getLsbD 54 = false → v.getLsbD 53 = true →
      decode v = .start (v.extractLsb' 16 16) (v.extractLsb' 32 16) (v.getLsbD 48) (v.getLsbD 49) (v.getLsbD 50)) ∧
    (v.getLsbD 54 = false → v.getLsbD 53 = false → v.getLsbD 52 = true → v.getLsbD 51 = true →
      decode v = .smpe (v.extractLsb' 0 16)) ∧
    (v.getLsbD 54 = false → v.getLsbD 53 = false → v.getLsbD 52 = true → v.getLsbD 51 = false →
      decode v = .endOp) ∧
    (v.getLsbD 54 = false → v.getLsbD 53 = false → v.getLsbD 52 = false → v.getLsbD 51 = true →
      decode v = .smp (v.extractLsb' 0 16)) ∧
    (v.getLsbD 54 = false → v.getLsbD 53 = false → v.getLsbD 52 = false → v.getLsbD 51 = false →
      decode v = .nop)

/-- Decode and encode agree on every instruction: a well-formed one comes back as itself, a sub-operation as the operation
whose words it has (30_encoding.md R82; log entry 6 for the second half). -/
def Obligations.DecodeOfEncodeIsTheInstruction : Prop :=
  ∀ i : Instr, decode (encode i) = i.operation ∧ (i.wellFormed = true → decode (encode i) = i)

/-- The other direction: encoding what a vector decodes to gives the vector's opcode and operand bits, and 0 in the bits that
the operation ignores (30_encoding.md R86, R88); what is decoded is well formed. -/
def Obligations.EncodeOfDecodeKeepsTheUsedBits : Prop :=
  ∀ v : InVector, (decode v).wellFormed = true ∧
    encode (decode v) = v &&& ((decode v).rowMask ||| (decode v).rowOperands)

/-- 30_encoding.md R91: "The masks given make them pairwise disjoint, so any order gives the same result": of the six
operation rows of the table, exactly the decoded one matches. -/
def Obligations.OnlyTheDecodedRowMatches : Prop :=
  ∀ (v : InVector) (i : Instr), i.wellFormed = true →
    (v &&& i.rowMask = i.rowMatch ↔ (decode v).rowMatch = i.rowMatch)

/-- Words written out from the spec (30_encoding.md R88; 95_test_vectors.md V-E7, V-E9 and V-E13 to V-E18, in the
order START, SMP, SMPE, END, NOP, RST, START, SMP). -/
def Obligations.SpecWordsDecodeAsWritten : Prop :=
  decode 0x23FFCE00640000#55 = .start 100#16 (-50#16) true true false ∧
  decode 0x0800000000FFC4#55 = .smp (-60#16) ∧
  decode 0x18000000000003#55 = .smpe 3#16 ∧
  decode 0x10000000000000#55 = .endOp ∧
  decode 0x00000000000000#55 = .nop ∧
  decode 0x78000000000007#55 = .rst ∧
  decode 0x38000000000007#55 = .start 0#16 0#16 false false false ∧
  decode 0x0FFFFFFFFF0005#55 = .smp 5#16

/-! ## The step -/

/-- A step runs the decoded operation: with a vector listed, `exec` of its operation on the state that has it taken; with
none listed, `exec` of the operation of the free value (log entry 3); and no meaning touches what the agents present next. -/
def Obligations.StepRunsTheDecodedOperation : Prop :=
  (∀ (s : State) (v : InVector) (rest : List InVector) (i : Instr),
    s.input = v :: rest → decode v = i → i.wellFormed = true →
      step s = exec i { s with input := rest }) ∧
  (∀ s : State, s.input = [] →
    step s = exec (decode (Config.undrivenPins s.tick)) { s with tick := s.tick + 1 }) ∧
  (∀ (i : Instr) (s t : State), exec i s = .next t → t.input = s.input ∧ t.tick = s.tick)

/-- The host's two hooks agree: what `decodeTableWord` reads from a word is what the next step runs once the word is presented
(log entry 2). -/
def Obligations.PresentedWordIsRunNext : Prop :=
  ∀ (s : State) (nbits w : Nat) (i : Instr), decodeTableWord nbits w = some i →
    step (s.withFetchWord nbits w) = exec i s

/-- 40_control_ops.md R109 on the model's input list: the machine's step, which decodes and executes, is the pseudocode
`step(IN)` on the pins of the vector sampled. THE MODEL'S CHOICE, log entry 2: that `IN` is the head of `State.input` and
that the step leaves the rest of the list. The step with nothing listed is left to `StepRunsTheDecodedOperation`. -/
def Obligations.StepIsThePseudocodeOnThePins : Prop :=
  ∀ (s : State) (v : InVector) (rest : List InVector), s.input = v :: rest →
    step s = .next { s with toRegs := clock (Pins.ofVector v) s.toRegs, input := rest }

/-- 30_encoding.md R86, "No value of `IN` is illegal and none traps": every step, and every instruction in every state,
answers a next state. -/
def Obligations.NothingStopsTheMachine : Prop :=
  (∀ s : State, ∃ t, step s = .next t) ∧ ∀ (i : Instr) (s : State), ∃ t, exec i s = .next t

/-- 10_state.md R43: the strobes are cleared before the operation, so no instruction sees them and only one that emits leaves
one set; `SMPE` clears once, so it leaves what its `SMP` half set. -/
def Obligations.EveryStepFirstClearsTheStrobes : Prop :=
  ∀ (i : Instr) (s : State) (b c : Bool),
    exec i { s with bValid := b, symValid := c } = exec i s ∧
    ∃ t, exec i s = .next t ∧
      (t.bValid = true → s.phase = .ph3) ∧ (t.symValid = true → s.phase = .ph3) ∧
      ∀ (d : BitVec 16) (a : State), i = .smpe d → exec (.smp d) s = .next a →
        t.bValid = a.bValid ∧ t.symValid = a.symValid

/-- Any list of input vectors run through `step` is the pseudocode run through `clock` (00_scope.md R10, 40_control_ops.md
R109). THE MODEL'S CHOICE, log entry 2: that the vectors are taken from `State.input` one by one and that the rest of the
list is left. -/
def Obligations.RunOfListedVectorsIsRunPins : Prop :=
  ∀ (ps : List (Pins Config.sw)) (rest : List InVector) (s : State),
    Host.Core.run Sys2Proof.core ps.length { s with input := ps.map Pins.toVector ++ rest } =
      .next { s with toRegs := runPins ps s.toRegs, input := rest }

/-! ## Control operations -/

/-- 40_control_ops.md R100 with 10_state.md R45: `RST` in any state makes every register 0, whatever the other control pins
say, and then `s_ready = done = err = 0`. -/
def Obligations.RstClearsAllTwentyRegisters : Prop :=
  (∀ s : State, exec .rst s = .next
    { s with
      phase := .idle, errCode := .none, vhigh := 0, vlow := 0, ctrl := 0
      preStart := 0, preSize := 0, preEnd := 0, short := 0, long := 0, run := 0
      startSeen := false, acc := 0, bitcnt := 0, byteCount := 0, diagSat := false
      bValid := false, bData := 0, symValid := false, sym := false }) ∧
  (∀ (s : State) (k : Fin 20) (t : State), exec .rst s = .next t → t.x k = 0) ∧
  (∀ s t : State, exec .rst s = .next t →
    (outPins t.toRegs).sReady = false ∧ (outPins t.toRegs).done = false ∧ (outPins t.toRegs).err = false) ∧
  (∀ v : InVector, v.getLsbD 54 = true → decode v = .rst)

/-- 40_control_ops.md R101: `START` in any state latches the five operands, clears every other register and enters `PH1`;
`s_valid` and `s_end` of the same step are ignored; the configuration stays latched until the next `START` or `RST`. -/
def Obligations.StartLatchesConfigurationAndClears : Prop :=
  (∀ (vh vl : BitVec 16) (rev inv verb : Bool) (s : State), ∃ c : BitVec 3,
    c.getLsbD 0 = rev ∧ c.getLsbD 1 = inv ∧ c.getLsbD 2 = verb ∧
    exec (.start vh vl rev inv verb) s = .next
      { s with
        phase := .ph1, errCode := .none, vhigh := vh, vlow := vl, ctrl := c
        preStart := 0, preSize := 0, preEnd := 0, short := 0, long := 0, run := 0
        startSeen := false, acc := 0, bitcnt := 0, byteCount := 0, diagSat := false
        bValid := false, bData := 0, symValid := false, sym := false }) ∧
  (∀ v : InVector, v.getLsbD 54 = false → v.getLsbD 53 = true →
    decode v = .start (v.extractLsb' 16 16) (v.extractLsb' 32 16) (v.getLsbD 48) (v.getLsbD 49) (v.getLsbD 50)) ∧
  (∀ (i : Instr) (s t : State), exec i s = .next t → i ≠ .rst →
    (∀ vh vl rev inv verb, i ≠ .start vh vl rev inv verb) →
    t.vhigh = s.vhigh ∧ t.vlow = s.vlow ∧ t.ctrl = s.ctrl)

/-- 40_control_ops.md R102: `NOP` clears the strobes and changes nothing else, and a `NOP` before any step `p` changes no
register, no symbol and no byte of what follows, for every `SW` and `CW`. -/
def Obligations.NopOnlyClearsTheStrobes : Prop :=
  (∀ s : State, exec .nop s = .next { s with bValid := false, symValid := false }) ∧
  ∀ (sw cw : Nat) (p : Pins sw) (ps : List (Pins sw)) (r : Regs sw cw),
    runPins (Pins.nop sw :: p :: ps) r = runPins (p :: ps) r ∧
    symbolsOf (Pins.nop sw :: p :: ps) r = symbolsOf (p :: ps) r ∧
    bytesOf (Pins.nop sw :: p :: ps) r = bytesOf (p :: ps) r

/-- 40_control_ops.md R103, R107 (and the last sentence of R108's corner cases): in `IDLE`, `DONE` and `ERR`, where
`s_ready == 0`, a sample and an end of capture are ignored. -/
def Obligations.SamplesAndEndsAreIgnoredOutsideAFrame : Prop :=
  ∀ (s : State) (d : BitVec 16), s.phase = .idle ∨ s.phase = .done ∨ s.phase = .err →
    (outPins s.toRegs).sReady = false ∧
    exec (.smp d) s = .next { s with bValid := false, symValid := false } ∧
    exec (.smpX d) s = .next { s with bValid := false, symValid := false } ∧
    exec .endOp s = .next { s with bValid := false, symValid := false } ∧
    exec .endX s = .next { s with bValid := false, symValid := false } ∧
    exec (.smpe d) s = .next { s with bValid := false, symValid := false }

/-- 30_encoding.md R82: `SMP` and `END` are the sub-operation that `PHASE` selects. -/
def Obligations.PhaseSelectsTheSubOperation : Prop :=
  ∀ (s : State) (d : BitVec 16),
    (s.phase = .ph1 → exec (.smp d) s = exec (.smpPh1 d) s ∧ exec .endOp s = exec .endPh1 s) ∧
    (s.phase = .ph2 → exec (.smp d) s = exec (.smpPh2 d) s ∧ exec .endOp s = exec .endPh2 s) ∧
    (s.phase = .ph3 → exec (.smp d) s = exec (.smpPh3 d) s ∧ exec .endOp s = exec .endPh3 s) ∧
    (s.phase = .idle ∨ s.phase = .done ∨ s.phase = .err →
      exec (.smp d) s = exec (.smpX d) s ∧ exec .endOp s = exec .endX s)

/-- THE MODEL'S CHOICE, log entry 6: in every state a sub-operation row does what its words do there, so a row asked for in a
phase its `when` excludes acts as the operation `SMP` or `END`. -/
def Obligations.SubOperationRowsActAsTheirWords : Prop :=
  ∀ (i : Instr) (s : State), exec i s = exec i.operation s

/-- 40_control_ops.md R104: the end of the capture in Phase 1, `END` and its row `END.PH1`. -/
def Obligations.EndInPhase1RaisesInputOrCalibrationError : Prop :=
  ∀ (i : Instr) (s : State), i = .endOp ∨ i = .endPh1 → s.phase = .ph1 →
    (s.preStart = 0 →
      exec i s = .next { s with phase := .err, errCode := .input, bValid := false, symValid := false }) ∧
    (s.preStart ≠ 0 →
      exec i s = .next { s with phase := .err, errCode := .calibration, bValid := false, symValid := false })

/-- 40_control_ops.md R105: the end of the capture in Phase 2, even if `PRE_SIZE` is 11 or more. -/
def Obligations.EndInPhase2RaisesCalibrationError : Prop :=
  ∀ (i : Instr) (s : State), i = .endOp ∨ i = .endPh2 → s.phase = .ph2 →
    exec i s = .next { s with phase := .err, errCode := .calibration, bValid := false, symValid := false }

/-- 40_control_ops.md R106: the end of the capture in Phase 3; the open run, the partial chunk and the byte count keep their
values, no symbol and no byte is emitted; in `SMPE` what the `SMP` half emitted stays valid. -/
def Obligations.EndInPhase3CompletesTheFrame : Prop :=
  ∀ s : State, s.phase = .ph3 →
    (∀ i : Instr, i = .endOp ∨ i = .endPh3 →
      exec i s = .next { s with phase := .done, bValid := false, symValid := false }) ∧
    ∀ d : BitVec 16, ∃ a : State, exec (.smp d) s = .next a ∧ exec (.smpe d) s = .next { a with phase := .done }

/-- 40_control_ops.md R108: `SMPE v` is `SMP v` then `END`, but for the strobes, which keep what the `SMP` half gave them; if
the `SMP` half raised, the `END` half changes nothing. -/
def Obligations.SmpeIsSmpThenEndInOneStep : Prop :=
  ∀ (d : BitVec 16) (s : State), ∃ a b : State,
    exec (.smp d) s = .next a ∧ exec .endOp a = .next b ∧
    exec (.smpe d) s = .next { b with bValid := a.bValid, symValid := a.symValid } ∧
    (a.phase = .err → exec (.smpe d) s = .next a)

/-! ## Preamble detector -/

/-- 41_preamble_detector.md R120 with 10_state.md R40: a leading high sample, equality included, is counted; at `CMAX` the
count stays and `DIAG_SAT` is set. -/
def Obligations.Phase1CountsALeadingHighSample : Prop :=
  ∀ (i : Instr) (d : BitVec 16) (s : State), i = .smp d ∨ i = .smpPh1 d → s.phase = .ph1 →
    s.vhigh.toInt ≤ d.toInt →
    (s.preStart ≠ 4294967295#32 →
      exec i s = .next { s with preStart := s.preStart + 1, bValid := false, symValid := false }) ∧
    (s.preStart = 4294967295#32 →
      exec i s = .next { s with diagSat := true, bValid := false, symValid := false })

/-- 41_preamble_detector.md R121: the first sample below `VHIGH` enters Phase 2 and is given to the Phase 2 rule in the same
step; `PRE_START` is not incremented. -/
def Obligations.Phase1StopSampleIsGivenToPhase2 : Prop :=
  ∀ (d : BitVec 16) (s : State), s.phase = .ph1 → d.toInt < s.vhigh.toInt →
    exec (.smpPh1 d) s = exec (.smpPh2 d) { s with phase := .ph2 } ∧
    exec (.smp d) s = exec (.smp d) { s with phase := .ph2 } ∧
    (s.preSize = 0 → d.toInt ≤ s.vlow.toInt →
      exec (.smpPh1 d) s = .next { s with phase := .ph2, preSize := 1, bValid := false, symValid := false }) ∧
    (s.preSize = 0 → s.vlow.toInt < d.toInt →
      exec (.smpPh1 d) s = .next
        { s with phase := .err, errCode := .calibration, preEnd := s.preStart, short := 0, long := 0
                 bValid := false, symValid := false })

/-- 41_preamble_detector.md R122, R123: a low sample, equality included, is counted; at `CMAX` RangeError is raised and the
count stays. -/
def Obligations.Phase2CountsALowSampleOrRaisesRangeError : Prop :=
  ∀ (i : Instr) (d : BitVec 16) (s : State), i = .smp d ∨ i = .smpPh2 d → s.phase = .ph2 →
    d.toInt ≤ s.vlow.toInt →
    (s.preSize ≠ 4294967295#32 →
      exec i s = .next { s with preSize := s.preSize + 1, bValid := false, symValid := false }) ∧
    (s.preSize = 4294967295#32 →
      exec i s = .next { s with phase := .err, errCode := .range, bValid := false, symValid := false })

/-- 41_preamble_detector.md R124, R125, R126: the stop sample of Phase 2. `PRE_END`, `SHORT` and `LONG` are written; then
either the frame enters Phase 3 with `RUN` 0, or CalibrationError is raised. -/
def Obligations.Phase2StopSampleCalibrates : Prop :=
  ∀ (i : Instr) (d : BitVec 16) (s : State), i = .smp d ∨ i = .smpPh2 d → s.phase = .ph2 →
    s.vlow.toInt < d.toInt →
    ∃ e sh lo : BitVec 32, ∃ sat : Bool,
      e.toNat = min (s.preStart.toNat + s.preSize.toNat) 4294967295 ∧
      sat = (s.diagSat || decide (4294967295 < s.preStart.toNat + s.preSize.toNat)) ∧
      sh.toNat = s.preSize.toNat / 11 ∧ lo.toNat = s.preSize.toNat / 3 ∧
      (s.preSize ≠ 0 ∧ sh ≠ 0 ∧ lo ≠ 0 →
        exec i s = .next
          { s with phase := .ph3, preEnd := e, diagSat := sat, short := sh, long := lo, run := 0
                   bValid := false, symValid := false }) ∧
      (s.preSize = 0 ∨ sh = 0 ∨ lo = 0 →
        exec i s = .next
          { s with phase := .err, errCode := .calibration, preEnd := e, diagSat := sat, short := sh, long := lo
                   bValid := false, symValid := false })

/-- 41_preamble_detector.md R127, an inference of the spec ("The shortest preamble that calibrates is 11 low samples"), for
every `SW` and `CW`: the three zero tests are the one test `PRE_SIZE < 11`. -/
def Obligations.ElevenLowSamplesCalibrate : Prop :=
  ∀ (sw cw : Nat) (r : Regs sw cw), Config.Legal sw cw →
    ((stopPh2 r).phase = .ph3 ↔ 11 ≤ r.preSize.toNat) ∧
    ((stopPh2 r).phase = .err ↔ r.preSize.toNat < 11) ∧
    (11 ≤ r.preSize.toNat → 1 ≤ (stopPh2 r).short.toNat ∧ 3 ≤ (stopPh2 r).long.toNat)

/-! ## Pulse classifier -/

/-- 42_pulse_classifier.md R140: a sample above `VHIGH`, equality not included, extends the run; at `CMAX` nothing changes, no
flag is set. -/
def Obligations.Phase3HighSampleExtendsTheRun : Prop :=
  ∀ (i : Instr) (d : BitVec 16) (s : State), i = .smp d ∨ i = .smpPh3 d → s.phase = .ph3 →
    s.vhigh.toInt < d.toInt →
    (s.run ≠ 4294967295#32 →
      exec i s = .next { s with run := s.run + 1, bValid := false, symValid := false }) ∧
    (s.run = 4294967295#32 →
      exec i s = .next { s with bValid := false, symValid := false })

/-- 42_pulse_classifier.md R141 corner (a): a non-high sample with no run open does nothing. -/
def Obligations.Phase3GapSampleWithoutARunDoesNothing : Prop :=
  ∀ (i : Instr) (d : BitVec 16) (s : State), i = .smp d ∨ i = .smpPh3 d → s.phase = .ph3 →
    d.toInt ≤ s.vhigh.toInt → s.run = 0 →
    exec i s = .next { s with bValid := false, symValid := false }

/-- 42_pulse_classifier.md R141, R146 and 43_frame_reassembler.md R161: the first pulse run of a frame ends. Its symbol is on
the symbol tap, long 1 and short 0, swapped by `REV`; the reassembler drops it. -/
def Obligations.FirstRunOfAFrameIsTheStartBit : Prop :=
  ∀ (i : Instr) (d : BitVec 16) (s : State), i = .smp d ∨ i = .smpPh3 d → s.phase = .ph3 →
    d.toInt ≤ s.vhigh.toInt → s.run ≠ 0 → s.startSeen = false →
    exec i s = .next
      { s with run := 0, startSeen := true, symValid := true, bValid := false
               sym := !(xor (decide (5 * s.run.toNat < 3 * s.long.toNat)) (s.ctrl.getLsbD 0)) }

/-- 42_pulse_classifier.md R141, R146 and 43_frame_reassembler.md R162, R163: a later run that is not the eighth of its chunk
ends. Its symbol enters `ACC` at bit 0, every bit moves up by one, `BITCNT` counts it. -/
def Obligations.PayloadSymbolIsShiftedIn : Prop :=
  ∀ (i : Instr) (d : BitVec 16) (s : State), i = .smp d ∨ i = .smpPh3 d → s.phase = .ph3 →
    d.toInt ≤ s.vhigh.toInt → s.run ≠ 0 → s.startSeen = true → s.bitcnt ≠ 7 →
    ∃ (b : Bool) (a : BitVec 8),
      b = !(xor (decide (5 * s.run.toNat < 3 * s.long.toNat)) (s.ctrl.getLsbD 0)) ∧
      a.toNat = (2 * s.acc.toNat + b.toNat) % 256 ∧
      exec i s = .next
        { s with run := 0, sym := b, symValid := true, bValid := false, acc := a, bitcnt := s.bitcnt + 1 }

/-- 42_pulse_classifier.md R141 and 43_frame_reassembler.md R160, R164, R165, R166: the eighth run of a chunk ends. The byte
leaves in the same step, in the bit order `INV` says, `ACC` itself not reversed; `BYTE_COUNT` saturates. -/
def Obligations.EighthSymbolEmitsTheByte : Prop :=
  ∀ (i : Instr) (d : BitVec 16) (s : State), i = .smp d ∨ i = .smpPh3 d → s.phase = .ph3 →
    d.toInt ≤ s.vhigh.toInt → s.run ≠ 0 → s.startSeen = true → s.bitcnt = 7 →
    ∃ (b : Bool) (a byte : BitVec 8) (n : BitVec 32),
      b = !(xor (decide (5 * s.run.toNat < 3 * s.long.toNat)) (s.ctrl.getLsbD 0)) ∧
      a.toNat = (2 * s.acc.toNat + b.toNat) % 256 ∧
      (∀ k < 8, byte.getLsbD k = if s.ctrl.getLsbD 1 then a.getLsbD (7 - k) else a.getLsbD k) ∧
      n.toNat = min (s.byteCount.toNat + 1) 4294967295 ∧
      exec i s = .next
        { s with run := 0, sym := b, symValid := true, acc := a, bitcnt := 0
                 bData := byte, bValid := true, byteCount := n
                 diagSat := s.diagSat || decide (s.byteCount = 4294967295#32) }

/-- 42_pulse_classifier.md R144, an inference of the spec ("the shortest run classified long is ceil(3*L / 5)"), and its
account of the document's `floor` property. -/
def Obligations.ShortestLongRunIsCeilThreeFifths : Prop :=
  ∀ long : Nat, 1 ≤ long →
    (∀ run, isShort run long = false ↔ (3 * long + 4) / 5 ≤ run) ∧
    (5 ∣ long → isShort (3 * long / 5) long = false) ∧
    (¬ 5 ∣ long → isShort (3 * long / 5) long = true ∧ isShort (3 * long / 5 + 1) long = false)

/-- 42_pulse_classifier.md R145, an inference of the spec: for a calibrated `LONG` the saturated run length is classified as
the true one, at every `CW`. -/
def Obligations.SaturatedRunKeepsItsSymbol : Prop :=
  ∀ (cw n long : Nat), long ≤ (2 ^ cw - 1) / 3 →
    isShort (min n (2 ^ cw - 1)) long = isShort n long

/-- 42_pulse_classifier.md R143, R147: a run of length 0 has no symbol; `rev` swaps the symbols of every other. -/
def Obligations.PolaritySwapsTheTwoSymbols : Prop :=
  ∀ run long : Nat,
    (run = 0 → classify run long false = none ∧ classify run long true = none) ∧
    (run ≠ 0 →
      classify run long false = some (decide (3 * long ≤ 5 * run)) ∧
      classify run long true = some (decide (5 * run < 3 * long)))

/-! ## Reassembler -/

/-- 43_frame_reassembler.md R165, R169: what the packer does with each bit, and the document's round trip. -/
def Obligations.PackKeepsOrReversesTheBits : Prop :=
  ∀ a : BitVec 8, pack a false = a ∧
    (∀ k < 8, (pack a true).getLsbD k = a.getLsbD (7 - k)) ∧
    pack a true = bitrev8 (pack a false) ∧ bitrev8 (bitrev8 a) = a

/-- 43_frame_reassembler.md R168, an inference of the spec: the bytes that a sequence of symbols makes the reassembler emit,
from a reassembler as `START` leaves it (`ACC` may hold anything), are the packed chunks of 8 after the first symbol, and
`BYTE_COUNT` is their number, at most `CMAX`. For every `SW` and `CW`. -/
def Obligations.SymbolsBecomeThePacket : Prop :=
  ∀ (sw cw : Nat) (r : Regs sw cw) (syms : List Bool), Config.Legal sw cw →
    r.startSeen = false → r.bitcnt = 0 → r.byteCount = 0 →
    pushedBytes syms r = refPacket syms r.ctrlInv ∧
    (pushAll syms r).byteCount.toNat = min ((syms.length - 1) / 8) (2 ^ cw - 1)

/-! ## Errors -/

/-- 60_exceptions.md R197: error entry writes the cause and the phase and nothing else; from the next cycle `err = 1`,
`s_ready = 0` and `err_code` shows the code. For every `SW` and `CW`. -/
def Obligations.RaiseWritesOnlyPhaseAndErrCode : Prop :=
  ∀ (sw cw : Nat) (r : Regs sw cw),
    raise .calibrationError r = { r with phase := .err, errCode := .calibration } ∧
    raise .inputError r = { r with phase := .err, errCode := .input } ∧
    raise .rangeError r = { r with phase := .err, errCode := .range } ∧
    (∀ e : WfdError, (outPins (raise e r)).err = true ∧ (outPins (raise e r)).sReady = false) ∧
    (outPins (raise .calibrationError r)).errCode = 1 ∧
    (outPins (raise .inputError r)).errCode = 2 ∧
    (outPins (raise .rangeError r)).errCode = 3

/-- 10_state.md R23: "The complete list of `PHASE` transitions". `Inv` is the premise that rules out register contents no run
reaches (a `PRE_SIZE` other than 0 in `PH1`). -/
def Obligations.PhaseFollowsTheTransitionTable : Prop :=
  ∀ (s t : State), Inv s.toRegs →
    (exec .rst s = .next t → t.phase = .idle ∧ t.errCode = .none) ∧
    (∀ (vh vl : BitVec 16) (rev inv verb : Bool), exec (.start vh vl rev inv verb) s = .next t →
      t.phase = .ph1 ∧ t.errCode = .none) ∧
    (exec .nop s = .next t → t.phase = s.phase ∧ t.errCode = s.errCode) ∧
    (∀ d : BitVec 16, exec (.smp d) s = .next t → SmpTransition d.toInt s.toRegs t.phase t.errCode) ∧
    (exec .endOp s = .next t → EndTransition s.toRegs t.phase t.errCode) ∧
    (∀ d : BitVec 16, exec (.smpe d) s = .next t → ∃ a : State, exec (.smp d) s = .next a ∧
      SmpTransition d.toInt s.toRegs a.phase a.errCode ∧ EndTransition a.toRegs t.phase t.errCode)

/-- 60_exceptions.md R199, an inference of the spec ("No error in Phase 3"): nothing executed in `PH3` raises. -/
def Obligations.NoErrorIsRaisedInPhase3 : Prop :=
  ∀ (i : Instr) (s t : State), s.phase = .ph3 → exec i s = .next t →
    t.phase ≠ .err ∧ (t.errCode = s.errCode ∨ t.errCode = .none)

/-- 44_frame_function.md R188, an inference of the spec ("No partial packet"): a symbol or a byte comes only from a sample
executed in `PH3`, in which no error is raised; a byte comes only with a symbol. -/
def Obligations.OutputComesOnlyFromPhase3Samples : Prop :=
  ∀ (i : Instr) (s t : State), exec i s = .next t →
    (t.bValid = true → t.symValid = true) ∧
    (t.symValid = true →
      s.phase = .ph3 ∧ t.phase ≠ .err ∧ s.run ≠ 0 ∧
      ∃ d : BitVec 16, (i.operation = .smp d ∨ i.operation = .smpe d) ∧ d.toInt ≤ s.vhigh.toInt)

/-- 60_exceptions.md R203 (and R202 item 5): `START` and `RST` leave `ERR` and `DONE`; every other instruction keeps the phase
and the error code. -/
def Obligations.OnlyStartAndRstLeaveErrAndDone : Prop :=
  ∀ (i : Instr) (s : State), s.phase = .err ∨ s.phase = .done →
    ∃ t, exec i s = .next t ∧
      ((i = .rst ∧ t.phase = .idle ∧ t.errCode = .none) ∨
       (∃ vh vl rev inv verb, i = .start vh vl rev inv verb ∧ t.phase = .ph1 ∧ t.errCode = .none) ∨
       (i ≠ .rst ∧ (∀ vh vl rev inv verb, i ≠ .start vh vl rev inv verb) ∧
        t = { s with bValid := false, symValid := false }))

/-! ## Frames of all instructions -/

/-- 10_state.md R46, an inference of the spec: an instruction leaves every register unchanged that its column of the write
table does not name, and never what the agents present next. -/
def Obligations.RegistersOutsideTheWriteTableAreUnchanged : Prop :=
  ∀ (i : Instr) (s t : State), exec i s = .next t →
    (∀ k : Fin 20, k ∉ writes i s.phase → t.x k = s.x k) ∧ t.input = s.input ∧ t.tick = s.tick

/-- 10_state.md R28, its first sentence: the five configuration values change only in `START` and `RST`, whatever vector is on
the pins. -/
def Obligations.ConfigurationChangesOnlyInStartAndRst : Prop :=
  ∀ (s t : State) (v : InVector) (rest : List InVector), s.input = v :: rest → step s = .next t →
    v.getLsbD 54 = false → v.getLsbD 53 = false →
    t.vhigh = s.vhigh ∧ t.vlow = s.vlow ∧ t.ctrl = s.ctrl

/-- 10_state.md R28, its sentence on `VERB`: "`VERB` has no effect on any other register or pin". For every `SW` and `CW`:
registers that differ in `VERB` alone still do after any step without `rst` and `start`, with equal output pins; so they do
after any number of such steps, with equal symbols and bytes on the way; the pin `cfg_verbose` changes at most `VERB`, in
any step; and two frames that differ in `cfg_verbose` alone end in registers that differ in `CTRL` alone, with equal output
pins, symbols and bytes. -/
def Obligations.VerboseHasNoEffect : Prop :=
  (∀ (sw cw : Nat) (p : Pins sw) (r : Regs sw cw) (c : BitVec 3), p.rst = false → p.start = false →
    c.getLsbD 0 = r.ctrl.getLsbD 0 → c.getLsbD 1 = r.ctrl.getLsbD 1 →
    (clock p r).ctrl = r.ctrl ∧ clock p { r with ctrl := c } = { clock p r with ctrl := c } ∧
    outPins (clock p { r with ctrl := c }) = outPins (clock p r)) ∧
  (∀ (sw cw : Nat) (ps : List (Pins sw)) (r : Regs sw cw) (c : BitVec 3),
    (∀ p ∈ ps, p.rst = false ∧ p.start = false) →
    c.getLsbD 0 = r.ctrl.getLsbD 0 → c.getLsbD 1 = r.ctrl.getLsbD 1 →
    (runPins ps r).ctrl = r.ctrl ∧ runPins ps { r with ctrl := c } = { runPins ps r with ctrl := c } ∧
    symbolsOf ps { r with ctrl := c } = symbolsOf ps r ∧ bytesOf ps { r with ctrl := c } = bytesOf ps r) ∧
  (∀ (sw cw : Nat) (p : Pins sw) (r : Regs sw cw) (verb : Bool), ∃ c : BitVec 3,
    c.getLsbD 0 = (clock p r).ctrl.getLsbD 0 ∧ c.getLsbD 1 = (clock p r).ctrl.getLsbD 1 ∧
    clock { p with cfgVerbose := verb } r = { clock p r with ctrl := c } ∧
    outPins (clock { p with cfgVerbose := verb } r) = outPins (clock p r)) ∧
  ∀ (sw cw : Nat) (vh vl : BitVec sw) (rev inv : Bool) (samples : List (BitVec sw)) (r : Regs sw cw),
    runPins (framePins vh vl rev inv true samples) r =
      { runPins (framePins vh vl rev inv false samples) r with ctrl := ctrlOf rev inv true } ∧
    outPins (runPins (framePins vh vl rev inv true samples) r) =
      outPins (runPins (framePins vh vl rev inv false samples) r) ∧
    symbolsOf (framePins vh vl rev inv true samples) r = symbolsOf (framePins vh vl rev inv false samples) r ∧
    bytesOf (framePins vh vl rev inv true samples) r = bytesOf (framePins vh vl rev inv false samples) r

/-- 10_state.md R44: every output pin, from the registers; the pins `phase` and `err_code` with the values that R22 and R25
give the names. -/
def Obligations.OutputPinsShowTheRegisters : Prop :=
  ∀ (sw cw : Nat) (r : Regs sw cw),
    ((outPins r).sReady = true ↔ r.phase = .ph1 ∨ r.phase = .ph2 ∨ r.phase = .ph3) ∧
    ((outPins r).done = true ↔ r.phase = .done) ∧ ((outPins r).err = true ↔ r.phase = .err) ∧
    ((outPins r).phase = 0 ↔ r.phase = .idle) ∧ ((outPins r).phase = 1 ↔ r.phase = .ph1) ∧
    ((outPins r).phase = 2 ↔ r.phase = .ph2) ∧ ((outPins r).phase = 3 ↔ r.phase = .ph3) ∧
    ((outPins r).phase = 4 ↔ r.phase = .done) ∧ ((outPins r).phase = 5 ↔ r.phase = .err) ∧
    ((outPins r).errCode = 0 ↔ r.errCode = .none) ∧ ((outPins r).errCode = 1 ↔ r.errCode = .calibration) ∧
    ((outPins r).errCode = 2 ↔ r.errCode = .input) ∧ ((outPins r).errCode = 3 ↔ r.errCode = .range) ∧
    (outPins r).errCode.toNat = r.x 1 ∧ (outPins r).phase.toNat = r.x 0 ∧
    (outPins r).bValid = r.bValid ∧ (outPins r).bData = r.bData ∧
    (outPins r).symValid = r.symValid ∧ (outPins r).sym = r.sym ∧
    (outPins r).preStart = r.preStart ∧ (outPins r).preSize = r.preSize ∧ (outPins r).preEnd = r.preEnd ∧
    (outPins r).shortDur = r.short ∧ (outPins r).longDur = r.long ∧ (outPins r).byteCount = r.byteCount ∧
    (outPins r).diagSat = r.diagSat ∧ (outPins r).startSeen = r.startSeen ∧ (outPins r).bitcnt = r.bitcnt ∧
    (outPins r).run = r.run

/-! ## Reset and invariants -/

/-- 10_state.md R45: the state after reset is what `RST` makes of any registers: every register 0. (`input` empty and `tick` 0
are the model's choice, log entries 2 and 3.) -/
def Obligations.ResetStateIsWhatRstLeaves : Prop :=
  (∀ k : Fin 20, State.reset.x k = 0) ∧
  (∀ s : State, exec .rst s = .next { s with toRegs := State.reset.toRegs }) ∧
  State.reset.input = [] ∧ State.reset.tick = 0

/-- 10_state.md R47 and 60_exceptions.md R198 at reset, for every `SW` and `CW`. -/
def Obligations.ResetMeetsTheInvariants : Prop :=
  ∀ sw cw : Nat, Inv (Regs.reset sw cw) ∧ ErrRecord (Regs.reset sw cw) ∧ Ph1Record (Regs.reset sw cw)

/-- 10_state.md R47, "Invariants that hold after every step that follows a `RST`" (an inference of the spec): every step of
the machine keeps them, from every state that meets them, whatever is on the pins. -/
def Obligations.EveryStepKeepsTheInvariants : Prop :=
  ∀ s t : State, Inv s.toRegs → step s = .next t → Inv t.toRegs

/-- 10_state.md R47 for every `SW >= 2` and `CW >= 4`. -/
def Obligations.InvariantsHoldAtEveryWidth : Prop :=
  ∀ (sw cw : Nat) (p : Pins sw) (r : Regs sw cw), Config.Legal sw cw → Inv r → Inv (clock p r)

/-- 70_reset_and_hazards.md R224: `START` and `RST` establish the invariants from any register contents, also those before the
first `RST` (93_implementation_defined.md U1). -/
def Obligations.StartAndRstEstablishTheInvariants : Prop :=
  ∀ (sw cw : Nat) (p : Pins sw) (r : Regs sw cw), p.rst = true ∨ p.start = true →
    Inv (clock p r) ∧ ErrRecord (clock p r) ∧ Ph1Record (clock p r)

/-- 60_exceptions.md R198, an inference of the spec: the record that each raise site leaves, kept until `START` or `RST`, for
every `SW >= 2` and `CW >= 4`. -/
def Obligations.ErrorLeavesTheRecordOfItsSite : Prop :=
  ∀ (sw cw : Nat) (p : Pins sw) (r : Regs sw cw), Config.Legal sw cw →
    Inv r → ErrRecord r → Ph1Record r → ErrRecord (clock p r) ∧ Ph1Record (clock p r)

/-! ## The frame as a function -/

/-- 44_frame_function.md R183, an inference of the spec: for every `SW >= 2`, `CW >= 4`, every capture and configuration, from
any registers, a frame gives the outcome of the reference function, by the table of R182, the same bytes in the same order,
and the symbols are the reference's; if the low run of the preamble exceeds `CMAX` it ends in RangeError without a byte. -/
def Obligations.FrameComputesTheReferenceFunction : Prop :=
  ∀ (sw cw : Nat) (vh vl : BitVec sw) (rev inv verb : Bool) (samples : List (BitVec sw)) (r : Regs sw cw),
    Config.Legal sw cw →
    (refSize (samples.map sampleOf) vh.toInt vl.toInt ≤ 2 ^ cw - 1 →
      match decodeRef (samples.map sampleOf) vh.toInt vl.toInt rev inv with
      | .packet bytes =>
        frameResult (framePins vh vl rev inv verb samples) r = ⟨.done, .none, bytes⟩ ∧
        symbolsOf (framePins vh vl rev inv verb samples) r
          = refSymbols (samples.map sampleOf) vh.toInt vl.toInt rev
      | .fails e =>
        frameResult (framePins vh vl rev inv verb samples) r = ⟨.err, errorCode e, []⟩ ∧
        symbolsOf (framePins vh vl rev inv verb samples) r = []) ∧
    (2 ^ cw - 1 < refSize (samples.map sampleOf) vh.toInt vl.toInt →
      frameResult (framePins vh vl rev inv verb samples) r = ⟨.err, .range, []⟩ ∧
      symbolsOf (framePins vh vl rev inv verb samples) r = [])

/-- 44_frame_function.md R184, an inference of the spec: the six diagnostics of a frame that ends in `DONE` with `DIAG_SAT`
0. -/
def Obligations.DoneFrameShowsTheReferenceDiagnostics : Prop :=
  ∀ (sw cw : Nat) (vh vl : BitVec sw) (rev inv verb : Bool) (samples : List (BitVec sw)) (r f : Regs sw cw),
    Config.Legal sw cw → runPins (framePins vh vl rev inv verb samples) r = f →
    f.phase = .done → f.diagSat = false →
    f.preStart.toNat = refPreStart (samples.map sampleOf) vh.toInt ∧
    f.preSize.toNat = refSize (samples.map sampleOf) vh.toInt vl.toInt ∧
    f.preEnd.toNat = refPreEnd (samples.map sampleOf) vh.toInt vl.toInt ∧
    f.short.toNat = refSize (samples.map sampleOf) vh.toInt vl.toInt / 11 ∧
    f.long.toNat = refSize (samples.map sampleOf) vh.toInt vl.toInt / 3 ∧
    f.byteCount.toNat = (refPacket (refSymbols (samples.map sampleOf) vh.toInt vl.toInt rev) inv).length

/-- 44_frame_function.md R185, R187, inferences of the spec: what follows a `START` does not depend on what came before it:
all registers, all bytes, all symbols, whatever steps follow. -/
def Obligations.NothingBeforeStartMatters : Prop :=
  ∀ (sw cw : Nat) (p : Pins sw) (ps : List (Pins sw)) (r r' : Regs sw cw), p.start = true →
    runPins (p :: ps) r = runPins (p :: ps) r' ∧
    bytesOf (p :: ps) r = bytesOf (p :: ps) r' ∧ symbolsOf (p :: ps) r = symbolsOf (p :: ps) r'

/-- 20_memory.md R70 item 3: `NOP` steps and ignored operations, wherever they stand, change no symbol, no byte and, but for
the strobes, no register. -/
def Obligations.IdleStepsChangeNothing : Prop :=
  ∀ (sw cw : Nat) (ps : List (Pins sw)) (r : Regs sw cw),
    symbolsOf (dropIdleSteps ps r) r = symbolsOf ps r ∧
    bytesOf (dropIdleSteps ps r) r = bytesOf ps r ∧
    clearStrobes (runPins (dropIdleSteps ps r) r) = clearStrobes (runPins ps r)

/-- 44_frame_function.md R186, R182, inferences of the spec: a frame of `n` samples ends in `DONE` or `ERR` after exactly
`n + 2` steps (`n + 1` with `SMPE`). -/
def Obligations.FrameEndsInDoneOrErr : Prop :=
  ∀ (sw cw : Nat) (vh vl : BitVec sw) (rev inv verb : Bool) (samples : List (BitVec sw)) (last : BitVec sw)
    (r : Regs sw cw),
    (framePins vh vl rev inv verb samples).length = samples.length + 2 ∧
    (frameLPins vh vl rev inv verb samples last).length = (samples ++ [last]).length + 1 ∧
    ((runPins (framePins vh vl rev inv verb samples) r).phase = .done ∨
      (runPins (framePins vh vl rev inv verb samples) r).phase = .err) ∧
    ((runPins (frameLPins vh vl rev inv verb samples last) r).phase = .done ∨
      (runPins (frameLPins vh vl rev inv verb samples last) r).phase = .err)

/-- 44_frame_function.md R181, an inference of the spec: `FRAMEL` has the result and the symbols of `FRAME`. -/
def Obligations.MergedLastSampleGivesTheSameFrame : Prop :=
  ∀ (sw cw : Nat) (vh vl : BitVec sw) (rev inv verb : Bool) (samples : List (BitVec sw)) (last : BitVec sw)
    (r : Regs sw cw),
    frameResult (frameLPins vh vl rev inv verb samples last) r
      = frameResult (framePins vh vl rev inv verb (samples ++ [last])) r ∧
    symbolsOf (frameLPins vh vl rev inv verb samples last) r
      = symbolsOf (framePins vh vl rev inv verb (samples ++ [last])) r

/-- 20_memory.md R62, an inference of the spec ("at least 16 accepted samples separate two bytes"): after a step that emitted a
byte, steps that accept fewer than 16 samples emit none, whatever else they do. -/
def Obligations.BytesAreSixteenAcceptedSamplesApart : Prop :=
  ∀ (sw cw : Nat) (p : Pins sw) (ps : List (Pins sw)) (r : Regs sw cw), (clock p r).bValid = true →
    acceptedCount ps (clock p r) < 16 → bytesOf ps (clock p r) = []
end

