-- ==== Sys2Proof/Laws/State.lean ====
section
/-! SUPPORT. The registers after each update, field by field: true by `rfl`, for `simp`. -/

namespace Sys2Proof.Machine

variable {sw cw : Nat}

/-! ## `clearStrobes` -/

@[simp] theorem clearStrobes_phase (r : Regs sw cw) :
    (clearStrobes r).phase = r.phase := rfl

@[simp] theorem clearStrobes_errCode (r : Regs sw cw) :
    (clearStrobes r).errCode = r.errCode := rfl

@[simp] theorem clearStrobes_vhigh (r : Regs sw cw) :
    (clearStrobes r).vhigh = r.vhigh := rfl

@[simp] theorem clearStrobes_vlow (r : Regs sw cw) :
    (clearStrobes r).vlow = r.vlow := rfl

@[simp] theorem clearStrobes_ctrl (r : Regs sw cw) :
    (clearStrobes r).ctrl = r.ctrl := rfl

@[simp] theorem clearStrobes_preStart (r : Regs sw cw) :
    (clearStrobes r).preStart = r.preStart := rfl

@[simp] theorem clearStrobes_preSize (r : Regs sw cw) :
    (clearStrobes r).preSize = r.preSize := rfl

@[simp] theorem clearStrobes_preEnd (r : Regs sw cw) :
    (clearStrobes r).preEnd = r.preEnd := rfl

@[simp] theorem clearStrobes_short (r : Regs sw cw) :
    (clearStrobes r).short = r.short := rfl

@[simp] theorem clearStrobes_long (r : Regs sw cw) :
    (clearStrobes r).long = r.long := rfl

@[simp] theorem clearStrobes_run (r : Regs sw cw) :
    (clearStrobes r).run = r.run := rfl

@[simp] theorem clearStrobes_startSeen (r : Regs sw cw) :
    (clearStrobes r).startSeen = r.startSeen := rfl

@[simp] theorem clearStrobes_acc (r : Regs sw cw) :
    (clearStrobes r).acc = r.acc := rfl

@[simp] theorem clearStrobes_bitcnt (r : Regs sw cw) :
    (clearStrobes r).bitcnt = r.bitcnt := rfl

@[simp] theorem clearStrobes_byteCount (r : Regs sw cw) :
    (clearStrobes r).byteCount = r.byteCount := rfl

@[simp] theorem clearStrobes_diagSat (r : Regs sw cw) :
    (clearStrobes r).diagSat = r.diagSat := rfl

@[simp] theorem clearStrobes_bValid (r : Regs sw cw) :
    (clearStrobes r).bValid = false := rfl

@[simp] theorem clearStrobes_bData (r : Regs sw cw) :
    (clearStrobes r).bData = r.bData := rfl

@[simp] theorem clearStrobes_symValid (r : Regs sw cw) :
    (clearStrobes r).symValid = false := rfl

@[simp] theorem clearStrobes_sym (r : Regs sw cw) :
    (clearStrobes r).sym = r.sym := rfl

/-! ## `raise` -/

@[simp] theorem raise_phase (e : WfdError) (r : Regs sw cw) :
    (raise e r).phase = .err := rfl

@[simp] theorem raise_errCode (e : WfdError) (r : Regs sw cw) :
    (raise e r).errCode = errorCode e := rfl

@[simp] theorem raise_vhigh (e : WfdError) (r : Regs sw cw) :
    (raise e r).vhigh = r.vhigh := rfl

@[simp] theorem raise_vlow (e : WfdError) (r : Regs sw cw) :
    (raise e r).vlow = r.vlow := rfl

@[simp] theorem raise_ctrl (e : WfdError) (r : Regs sw cw) :
    (raise e r).ctrl = r.ctrl := rfl

@[simp] theorem raise_preStart (e : WfdError) (r : Regs sw cw) :
    (raise e r).preStart = r.preStart := rfl

@[simp] theorem raise_preSize (e : WfdError) (r : Regs sw cw) :
    (raise e r).preSize = r.preSize := rfl

@[simp] theorem raise_preEnd (e : WfdError) (r : Regs sw cw) :
    (raise e r).preEnd = r.preEnd := rfl

@[simp] theorem raise_short (e : WfdError) (r : Regs sw cw) :
    (raise e r).short = r.short := rfl

@[simp] theorem raise_long (e : WfdError) (r : Regs sw cw) :
    (raise e r).long = r.long := rfl

@[simp] theorem raise_run (e : WfdError) (r : Regs sw cw) :
    (raise e r).run = r.run := rfl

@[simp] theorem raise_startSeen (e : WfdError) (r : Regs sw cw) :
    (raise e r).startSeen = r.startSeen := rfl

@[simp] theorem raise_acc (e : WfdError) (r : Regs sw cw) :
    (raise e r).acc = r.acc := rfl

@[simp] theorem raise_bitcnt (e : WfdError) (r : Regs sw cw) :
    (raise e r).bitcnt = r.bitcnt := rfl

@[simp] theorem raise_byteCount (e : WfdError) (r : Regs sw cw) :
    (raise e r).byteCount = r.byteCount := rfl

@[simp] theorem raise_diagSat (e : WfdError) (r : Regs sw cw) :
    (raise e r).diagSat = r.diagSat := rfl

@[simp] theorem raise_bValid (e : WfdError) (r : Regs sw cw) :
    (raise e r).bValid = r.bValid := rfl

@[simp] theorem raise_bData (e : WfdError) (r : Regs sw cw) :
    (raise e r).bData = r.bData := rfl

@[simp] theorem raise_symValid (e : WfdError) (r : Regs sw cw) :
    (raise e r).symValid = r.symValid := rfl

@[simp] theorem raise_sym (e : WfdError) (r : Regs sw cw) :
    (raise e r).sym = r.sym := rfl

/-! ## `setPhase` -/

@[simp] theorem setPhase_phase (p : Phase) (r : Regs sw cw) :
    (setPhase p r).phase = p := rfl

@[simp] theorem setPhase_errCode (p : Phase) (r : Regs sw cw) :
    (setPhase p r).errCode = r.errCode := rfl

@[simp] theorem setPhase_vhigh (p : Phase) (r : Regs sw cw) :
    (setPhase p r).vhigh = r.vhigh := rfl

@[simp] theorem setPhase_vlow (p : Phase) (r : Regs sw cw) :
    (setPhase p r).vlow = r.vlow := rfl

@[simp] theorem setPhase_ctrl (p : Phase) (r : Regs sw cw) :
    (setPhase p r).ctrl = r.ctrl := rfl

@[simp] theorem setPhase_preStart (p : Phase) (r : Regs sw cw) :
    (setPhase p r).preStart = r.preStart := rfl

@[simp] theorem setPhase_preSize (p : Phase) (r : Regs sw cw) :
    (setPhase p r).preSize = r.preSize := rfl

@[simp] theorem setPhase_preEnd (p : Phase) (r : Regs sw cw) :
    (setPhase p r).preEnd = r.preEnd := rfl

@[simp] theorem setPhase_short (p : Phase) (r : Regs sw cw) :
    (setPhase p r).short = r.short := rfl

@[simp] theorem setPhase_long (p : Phase) (r : Regs sw cw) :
    (setPhase p r).long = r.long := rfl

@[simp] theorem setPhase_run (p : Phase) (r : Regs sw cw) :
    (setPhase p r).run = r.run := rfl

@[simp] theorem setPhase_startSeen (p : Phase) (r : Regs sw cw) :
    (setPhase p r).startSeen = r.startSeen := rfl

@[simp] theorem setPhase_acc (p : Phase) (r : Regs sw cw) :
    (setPhase p r).acc = r.acc := rfl

@[simp] theorem setPhase_bitcnt (p : Phase) (r : Regs sw cw) :
    (setPhase p r).bitcnt = r.bitcnt := rfl

@[simp] theorem setPhase_byteCount (p : Phase) (r : Regs sw cw) :
    (setPhase p r).byteCount = r.byteCount := rfl

@[simp] theorem setPhase_diagSat (p : Phase) (r : Regs sw cw) :
    (setPhase p r).diagSat = r.diagSat := rfl

@[simp] theorem setPhase_bValid (p : Phase) (r : Regs sw cw) :
    (setPhase p r).bValid = r.bValid := rfl

@[simp] theorem setPhase_bData (p : Phase) (r : Regs sw cw) :
    (setPhase p r).bData = r.bData := rfl

@[simp] theorem setPhase_symValid (p : Phase) (r : Regs sw cw) :
    (setPhase p r).symValid = r.symValid := rfl

@[simp] theorem setPhase_sym (p : Phase) (r : Regs sw cw) :
    (setPhase p r).sym = r.sym := rfl

/-! ## `emitSym` -/

@[simp] theorem emitSym_phase (b : Bool) (r : Regs sw cw) :
    (emitSym b r).phase = r.phase := rfl

@[simp] theorem emitSym_errCode (b : Bool) (r : Regs sw cw) :
    (emitSym b r).errCode = r.errCode := rfl

@[simp] theorem emitSym_vhigh (b : Bool) (r : Regs sw cw) :
    (emitSym b r).vhigh = r.vhigh := rfl

@[simp] theorem emitSym_vlow (b : Bool) (r : Regs sw cw) :
    (emitSym b r).vlow = r.vlow := rfl

@[simp] theorem emitSym_ctrl (b : Bool) (r : Regs sw cw) :
    (emitSym b r).ctrl = r.ctrl := rfl

@[simp] theorem emitSym_preStart (b : Bool) (r : Regs sw cw) :
    (emitSym b r).preStart = r.preStart := rfl

@[simp] theorem emitSym_preSize (b : Bool) (r : Regs sw cw) :
    (emitSym b r).preSize = r.preSize := rfl

@[simp] theorem emitSym_preEnd (b : Bool) (r : Regs sw cw) :
    (emitSym b r).preEnd = r.preEnd := rfl

@[simp] theorem emitSym_short (b : Bool) (r : Regs sw cw) :
    (emitSym b r).short = r.short := rfl

@[simp] theorem emitSym_long (b : Bool) (r : Regs sw cw) :
    (emitSym b r).long = r.long := rfl

@[simp] theorem emitSym_run (b : Bool) (r : Regs sw cw) :
    (emitSym b r).run = r.run := rfl

@[simp] theorem emitSym_startSeen (b : Bool) (r : Regs sw cw) :
    (emitSym b r).startSeen = r.startSeen := rfl

@[simp] theorem emitSym_acc (b : Bool) (r : Regs sw cw) :
    (emitSym b r).acc = r.acc := rfl

@[simp] theorem emitSym_bitcnt (b : Bool) (r : Regs sw cw) :
    (emitSym b r).bitcnt = r.bitcnt := rfl

@[simp] theorem emitSym_byteCount (b : Bool) (r : Regs sw cw) :
    (emitSym b r).byteCount = r.byteCount := rfl

@[simp] theorem emitSym_diagSat (b : Bool) (r : Regs sw cw) :
    (emitSym b r).diagSat = r.diagSat := rfl

@[simp] theorem emitSym_bValid (b : Bool) (r : Regs sw cw) :
    (emitSym b r).bValid = r.bValid := rfl

@[simp] theorem emitSym_bData (b : Bool) (r : Regs sw cw) :
    (emitSym b r).bData = r.bData := rfl

@[simp] theorem emitSym_symValid (b : Bool) (r : Regs sw cw) :
    (emitSym b r).symValid = true := rfl

@[simp] theorem emitSym_sym (b : Bool) (r : Regs sw cw) :
    (emitSym b r).sym = b := rfl

/-! ## `emitByte` -/

@[simp] theorem emitByte_phase (v : Byte) (r : Regs sw cw) :
    (emitByte v r).phase = r.phase := rfl

@[simp] theorem emitByte_errCode (v : Byte) (r : Regs sw cw) :
    (emitByte v r).errCode = r.errCode := rfl

@[simp] theorem emitByte_vhigh (v : Byte) (r : Regs sw cw) :
    (emitByte v r).vhigh = r.vhigh := rfl

@[simp] theorem emitByte_vlow (v : Byte) (r : Regs sw cw) :
    (emitByte v r).vlow = r.vlow := rfl

@[simp] theorem emitByte_ctrl (v : Byte) (r : Regs sw cw) :
    (emitByte v r).ctrl = r.ctrl := rfl

@[simp] theorem emitByte_preStart (v : Byte) (r : Regs sw cw) :
    (emitByte v r).preStart = r.preStart := rfl

@[simp] theorem emitByte_preSize (v : Byte) (r : Regs sw cw) :
    (emitByte v r).preSize = r.preSize := rfl

@[simp] theorem emitByte_preEnd (v : Byte) (r : Regs sw cw) :
    (emitByte v r).preEnd = r.preEnd := rfl

@[simp] theorem emitByte_short (v : Byte) (r : Regs sw cw) :
    (emitByte v r).short = r.short := rfl

@[simp] theorem emitByte_long (v : Byte) (r : Regs sw cw) :
    (emitByte v r).long = r.long := rfl

@[simp] theorem emitByte_run (v : Byte) (r : Regs sw cw) :
    (emitByte v r).run = r.run := rfl

@[simp] theorem emitByte_startSeen (v : Byte) (r : Regs sw cw) :
    (emitByte v r).startSeen = r.startSeen := rfl

@[simp] theorem emitByte_acc (v : Byte) (r : Regs sw cw) :
    (emitByte v r).acc = r.acc := rfl

@[simp] theorem emitByte_bitcnt (v : Byte) (r : Regs sw cw) :
    (emitByte v r).bitcnt = r.bitcnt := rfl

@[simp] theorem emitByte_byteCount (v : Byte) (r : Regs sw cw) :
    (emitByte v r).byteCount = r.byteCount := rfl

@[simp] theorem emitByte_diagSat (v : Byte) (r : Regs sw cw) :
    (emitByte v r).diagSat = r.diagSat := rfl

@[simp] theorem emitByte_bValid (v : Byte) (r : Regs sw cw) :
    (emitByte v r).bValid = true := rfl

@[simp] theorem emitByte_bData (v : Byte) (r : Regs sw cw) :
    (emitByte v r).bData = v := rfl

@[simp] theorem emitByte_symValid (v : Byte) (r : Regs sw cw) :
    (emitByte v r).symValid = r.symValid := rfl

@[simp] theorem emitByte_sym (v : Byte) (r : Regs sw cw) :
    (emitByte v r).sym = r.sym := rfl

/-! ## `satIncPreStart` -/

@[simp] theorem satIncPreStart_phase (r : Regs sw cw) :
    (satIncPreStart r).phase = r.phase := rfl

@[simp] theorem satIncPreStart_errCode (r : Regs sw cw) :
    (satIncPreStart r).errCode = r.errCode := rfl

@[simp] theorem satIncPreStart_vhigh (r : Regs sw cw) :
    (satIncPreStart r).vhigh = r.vhigh := rfl

@[simp] theorem satIncPreStart_vlow (r : Regs sw cw) :
    (satIncPreStart r).vlow = r.vlow := rfl

@[simp] theorem satIncPreStart_ctrl (r : Regs sw cw) :
    (satIncPreStart r).ctrl = r.ctrl := rfl

@[simp] theorem satIncPreStart_preStart (r : Regs sw cw) :
    (satIncPreStart r).preStart = satInc r.preStart := rfl

@[simp] theorem satIncPreStart_preSize (r : Regs sw cw) :
    (satIncPreStart r).preSize = r.preSize := rfl

@[simp] theorem satIncPreStart_preEnd (r : Regs sw cw) :
    (satIncPreStart r).preEnd = r.preEnd := rfl

@[simp] theorem satIncPreStart_short (r : Regs sw cw) :
    (satIncPreStart r).short = r.short := rfl

@[simp] theorem satIncPreStart_long (r : Regs sw cw) :
    (satIncPreStart r).long = r.long := rfl

@[simp] theorem satIncPreStart_run (r : Regs sw cw) :
    (satIncPreStart r).run = r.run := rfl

@[simp] theorem satIncPreStart_startSeen (r : Regs sw cw) :
    (satIncPreStart r).startSeen = r.startSeen := rfl

@[simp] theorem satIncPreStart_acc (r : Regs sw cw) :
    (satIncPreStart r).acc = r.acc := rfl

@[simp] theorem satIncPreStart_bitcnt (r : Regs sw cw) :
    (satIncPreStart r).bitcnt = r.bitcnt := rfl

@[simp] theorem satIncPreStart_byteCount (r : Regs sw cw) :
    (satIncPreStart r).byteCount = r.byteCount := rfl

@[simp] theorem satIncPreStart_diagSat (r : Regs sw cw) :
    (satIncPreStart r).diagSat = satFlag r.preStart r.diagSat := rfl

@[simp] theorem satIncPreStart_bValid (r : Regs sw cw) :
    (satIncPreStart r).bValid = r.bValid := rfl

@[simp] theorem satIncPreStart_bData (r : Regs sw cw) :
    (satIncPreStart r).bData = r.bData := rfl

@[simp] theorem satIncPreStart_symValid (r : Regs sw cw) :
    (satIncPreStart r).symValid = r.symValid := rfl

@[simp] theorem satIncPreStart_sym (r : Regs sw cw) :
    (satIncPreStart r).sym = r.sym := rfl

/-! ## `satIncByteCount` -/

@[simp] theorem satIncByteCount_phase (r : Regs sw cw) :
    (satIncByteCount r).phase = r.phase := rfl

@[simp] theorem satIncByteCount_errCode (r : Regs sw cw) :
    (satIncByteCount r).errCode = r.errCode := rfl

@[simp] theorem satIncByteCount_vhigh (r : Regs sw cw) :
    (satIncByteCount r).vhigh = r.vhigh := rfl

@[simp] theorem satIncByteCount_vlow (r : Regs sw cw) :
    (satIncByteCount r).vlow = r.vlow := rfl

@[simp] theorem satIncByteCount_ctrl (r : Regs sw cw) :
    (satIncByteCount r).ctrl = r.ctrl := rfl

@[simp] theorem satIncByteCount_preStart (r : Regs sw cw) :
    (satIncByteCount r).preStart = r.preStart := rfl

@[simp] theorem satIncByteCount_preSize (r : Regs sw cw) :
    (satIncByteCount r).preSize = r.preSize := rfl

@[simp] theorem satIncByteCount_preEnd (r : Regs sw cw) :
    (satIncByteCount r).preEnd = r.preEnd := rfl

@[simp] theorem satIncByteCount_short (r : Regs sw cw) :
    (satIncByteCount r).short = r.short := rfl

@[simp] theorem satIncByteCount_long (r : Regs sw cw) :
    (satIncByteCount r).long = r.long := rfl

@[simp] theorem satIncByteCount_run (r : Regs sw cw) :
    (satIncByteCount r).run = r.run := rfl

@[simp] theorem satIncByteCount_startSeen (r : Regs sw cw) :
    (satIncByteCount r).startSeen = r.startSeen := rfl

@[simp] theorem satIncByteCount_acc (r : Regs sw cw) :
    (satIncByteCount r).acc = r.acc := rfl

@[simp] theorem satIncByteCount_bitcnt (r : Regs sw cw) :
    (satIncByteCount r).bitcnt = r.bitcnt := rfl

@[simp] theorem satIncByteCount_byteCount (r : Regs sw cw) :
    (satIncByteCount r).byteCount = satInc r.byteCount := rfl

@[simp] theorem satIncByteCount_diagSat (r : Regs sw cw) :
    (satIncByteCount r).diagSat = satFlag r.byteCount r.diagSat := rfl

@[simp] theorem satIncByteCount_bValid (r : Regs sw cw) :
    (satIncByteCount r).bValid = r.bValid := rfl

@[simp] theorem satIncByteCount_bData (r : Regs sw cw) :
    (satIncByteCount r).bData = r.bData := rfl

@[simp] theorem satIncByteCount_symValid (r : Regs sw cw) :
    (satIncByteCount r).symValid = r.symValid := rfl

@[simp] theorem satIncByteCount_sym (r : Regs sw cw) :
    (satIncByteCount r).sym = r.sym := rfl

/-! ## `incRun` -/

@[simp] theorem incRun_phase (r : Regs sw cw) :
    (incRun r).phase = r.phase := rfl

@[simp] theorem incRun_errCode (r : Regs sw cw) :
    (incRun r).errCode = r.errCode := rfl

@[simp] theorem incRun_vhigh (r : Regs sw cw) :
    (incRun r).vhigh = r.vhigh := rfl

@[simp] theorem incRun_vlow (r : Regs sw cw) :
    (incRun r).vlow = r.vlow := rfl

@[simp] theorem incRun_ctrl (r : Regs sw cw) :
    (incRun r).ctrl = r.ctrl := rfl

@[simp] theorem incRun_preStart (r : Regs sw cw) :
    (incRun r).preStart = r.preStart := rfl

@[simp] theorem incRun_preSize (r : Regs sw cw) :
    (incRun r).preSize = r.preSize := rfl

@[simp] theorem incRun_preEnd (r : Regs sw cw) :
    (incRun r).preEnd = r.preEnd := rfl

@[simp] theorem incRun_short (r : Regs sw cw) :
    (incRun r).short = r.short := rfl

@[simp] theorem incRun_long (r : Regs sw cw) :
    (incRun r).long = r.long := rfl

@[simp] theorem incRun_run (r : Regs sw cw) :
    (incRun r).run = satInc r.run := rfl

@[simp] theorem incRun_startSeen (r : Regs sw cw) :
    (incRun r).startSeen = r.startSeen := rfl

@[simp] theorem incRun_acc (r : Regs sw cw) :
    (incRun r).acc = r.acc := rfl

@[simp] theorem incRun_bitcnt (r : Regs sw cw) :
    (incRun r).bitcnt = r.bitcnt := rfl

@[simp] theorem incRun_byteCount (r : Regs sw cw) :
    (incRun r).byteCount = r.byteCount := rfl

@[simp] theorem incRun_diagSat (r : Regs sw cw) :
    (incRun r).diagSat = r.diagSat := rfl

@[simp] theorem incRun_bValid (r : Regs sw cw) :
    (incRun r).bValid = r.bValid := rfl

@[simp] theorem incRun_bData (r : Regs sw cw) :
    (incRun r).bData = r.bData := rfl

@[simp] theorem incRun_symValid (r : Regs sw cw) :
    (incRun r).symValid = r.symValid := rfl

@[simp] theorem incRun_sym (r : Regs sw cw) :
    (incRun r).sym = r.sym := rfl

/-! ## `calibrate` -/

@[simp] theorem calibrate_phase (r : Regs sw cw) :
    (calibrate r).phase = r.phase := rfl

@[simp] theorem calibrate_errCode (r : Regs sw cw) :
    (calibrate r).errCode = r.errCode := rfl

@[simp] theorem calibrate_vhigh (r : Regs sw cw) :
    (calibrate r).vhigh = r.vhigh := rfl

@[simp] theorem calibrate_vlow (r : Regs sw cw) :
    (calibrate r).vlow = r.vlow := rfl

@[simp] theorem calibrate_ctrl (r : Regs sw cw) :
    (calibrate r).ctrl = r.ctrl := rfl

@[simp] theorem calibrate_preStart (r : Regs sw cw) :
    (calibrate r).preStart = r.preStart := rfl

@[simp] theorem calibrate_preSize (r : Regs sw cw) :
    (calibrate r).preSize = r.preSize := rfl

@[simp] theorem calibrate_preEnd (r : Regs sw cw) :
    (calibrate r).preEnd = r.preEnd := rfl

@[simp] theorem calibrate_short (r : Regs sw cw) :
    (calibrate r).short = BitVec.ofNat cw (r.preSize.toNat / kShort) := rfl

@[simp] theorem calibrate_long (r : Regs sw cw) :
    (calibrate r).long = BitVec.ofNat cw (r.preSize.toNat / kLong) := rfl

@[simp] theorem calibrate_run (r : Regs sw cw) :
    (calibrate r).run = r.run := rfl

@[simp] theorem calibrate_startSeen (r : Regs sw cw) :
    (calibrate r).startSeen = r.startSeen := rfl

@[simp] theorem calibrate_acc (r : Regs sw cw) :
    (calibrate r).acc = r.acc := rfl

@[simp] theorem calibrate_bitcnt (r : Regs sw cw) :
    (calibrate r).bitcnt = r.bitcnt := rfl

@[simp] theorem calibrate_byteCount (r : Regs sw cw) :
    (calibrate r).byteCount = r.byteCount := rfl

@[simp] theorem calibrate_diagSat (r : Regs sw cw) :
    (calibrate r).diagSat = r.diagSat := rfl

@[simp] theorem calibrate_bValid (r : Regs sw cw) :
    (calibrate r).bValid = r.bValid := rfl

@[simp] theorem calibrate_bData (r : Regs sw cw) :
    (calibrate r).bData = r.bData := rfl

@[simp] theorem calibrate_symValid (r : Regs sw cw) :
    (calibrate r).symValid = r.symValid := rfl

@[simp] theorem calibrate_sym (r : Regs sw cw) :
    (calibrate r).sym = r.sym := rfl

/-! ## `completeByte` -/

@[simp] theorem completeByte_phase (r : Regs sw cw) :
    (completeByte r).phase = r.phase := rfl

@[simp] theorem completeByte_errCode (r : Regs sw cw) :
    (completeByte r).errCode = r.errCode := rfl

@[simp] theorem completeByte_vhigh (r : Regs sw cw) :
    (completeByte r).vhigh = r.vhigh := rfl

@[simp] theorem completeByte_vlow (r : Regs sw cw) :
    (completeByte r).vlow = r.vlow := rfl

@[simp] theorem completeByte_ctrl (r : Regs sw cw) :
    (completeByte r).ctrl = r.ctrl := rfl

@[simp] theorem completeByte_preStart (r : Regs sw cw) :
    (completeByte r).preStart = r.preStart := rfl

@[simp] theorem completeByte_preSize (r : Regs sw cw) :
    (completeByte r).preSize = r.preSize := rfl

@[simp] theorem completeByte_preEnd (r : Regs sw cw) :
    (completeByte r).preEnd = r.preEnd := rfl

@[simp] theorem completeByte_short (r : Regs sw cw) :
    (completeByte r).short = r.short := rfl

@[simp] theorem completeByte_long (r : Regs sw cw) :
    (completeByte r).long = r.long := rfl

@[simp] theorem completeByte_run (r : Regs sw cw) :
    (completeByte r).run = r.run := rfl

@[simp] theorem completeByte_startSeen (r : Regs sw cw) :
    (completeByte r).startSeen = r.startSeen := rfl

@[simp] theorem completeByte_acc (r : Regs sw cw) :
    (completeByte r).acc = r.acc := rfl

@[simp] theorem completeByte_bitcnt (r : Regs sw cw) :
    (completeByte r).bitcnt = 0 := rfl

@[simp] theorem completeByte_byteCount (r : Regs sw cw) :
    (completeByte r).byteCount = satInc r.byteCount := rfl

@[simp] theorem completeByte_diagSat (r : Regs sw cw) :
    (completeByte r).diagSat = satFlag r.byteCount r.diagSat := rfl

@[simp] theorem completeByte_bValid (r : Regs sw cw) :
    (completeByte r).bValid = true := rfl

@[simp] theorem completeByte_bData (r : Regs sw cw) :
    (completeByte r).bData = pack r.acc r.ctrlInv := rfl

@[simp] theorem completeByte_symValid (r : Regs sw cw) :
    (completeByte r).symValid = r.symValid := rfl

@[simp] theorem completeByte_sym (r : Regs sw cw) :
    (completeByte r).sym = r.sym := rfl

/-! ## `endPh3` -/

@[simp] theorem endPh3_phase (r : Regs sw cw) :
    (endPh3 r).phase = .done := rfl

@[simp] theorem endPh3_errCode (r : Regs sw cw) :
    (endPh3 r).errCode = r.errCode := rfl

@[simp] theorem endPh3_vhigh (r : Regs sw cw) :
    (endPh3 r).vhigh = r.vhigh := rfl

@[simp] theorem endPh3_vlow (r : Regs sw cw) :
    (endPh3 r).vlow = r.vlow := rfl

@[simp] theorem endPh3_ctrl (r : Regs sw cw) :
    (endPh3 r).ctrl = r.ctrl := rfl

@[simp] theorem endPh3_preStart (r : Regs sw cw) :
    (endPh3 r).preStart = r.preStart := rfl

@[simp] theorem endPh3_preSize (r : Regs sw cw) :
    (endPh3 r).preSize = r.preSize := rfl

@[simp] theorem endPh3_preEnd (r : Regs sw cw) :
    (endPh3 r).preEnd = r.preEnd := rfl

@[simp] theorem endPh3_short (r : Regs sw cw) :
    (endPh3 r).short = r.short := rfl

@[simp] theorem endPh3_long (r : Regs sw cw) :
    (endPh3 r).long = r.long := rfl

@[simp] theorem endPh3_run (r : Regs sw cw) :
    (endPh3 r).run = r.run := rfl

@[simp] theorem endPh3_startSeen (r : Regs sw cw) :
    (endPh3 r).startSeen = r.startSeen := rfl

@[simp] theorem endPh3_acc (r : Regs sw cw) :
    (endPh3 r).acc = r.acc := rfl

@[simp] theorem endPh3_bitcnt (r : Regs sw cw) :
    (endPh3 r).bitcnt = r.bitcnt := rfl

@[simp] theorem endPh3_byteCount (r : Regs sw cw) :
    (endPh3 r).byteCount = r.byteCount := rfl

@[simp] theorem endPh3_diagSat (r : Regs sw cw) :
    (endPh3 r).diagSat = r.diagSat := rfl

@[simp] theorem endPh3_bValid (r : Regs sw cw) :
    (endPh3 r).bValid = r.bValid := rfl

@[simp] theorem endPh3_bData (r : Regs sw cw) :
    (endPh3 r).bData = r.bData := rfl

@[simp] theorem endPh3_symValid (r : Regs sw cw) :
    (endPh3 r).symValid = r.symValid := rfl

@[simp] theorem endPh3_sym (r : Regs sw cw) :
    (endPh3 r).sym = r.sym := rfl

/-! ## `startFrame` -/

@[simp] theorem startFrame_phase (vh vl : BitVec sw) (rev inv verb : Bool) (r : Regs sw cw) :
    (startFrame vh vl rev inv verb r).phase = .ph1 := rfl

@[simp] theorem startFrame_errCode (vh vl : BitVec sw) (rev inv verb : Bool) (r : Regs sw cw) :
    (startFrame vh vl rev inv verb r).errCode = .none := rfl

@[simp] theorem startFrame_vhigh (vh vl : BitVec sw) (rev inv verb : Bool) (r : Regs sw cw) :
    (startFrame vh vl rev inv verb r).vhigh = vh := rfl

@[simp] theorem startFrame_vlow (vh vl : BitVec sw) (rev inv verb : Bool) (r : Regs sw cw) :
    (startFrame vh vl rev inv verb r).vlow = vl := rfl

@[simp] theorem startFrame_ctrl (vh vl : BitVec sw) (rev inv verb : Bool) (r : Regs sw cw) :
    (startFrame vh vl rev inv verb r).ctrl = ctrlOf rev inv verb := rfl

@[simp] theorem startFrame_preStart (vh vl : BitVec sw) (rev inv verb : Bool) (r : Regs sw cw) :
    (startFrame vh vl rev inv verb r).preStart = 0 := rfl

@[simp] theorem startFrame_preSize (vh vl : BitVec sw) (rev inv verb : Bool) (r : Regs sw cw) :
    (startFrame vh vl rev inv verb r).preSize = 0 := rfl

@[simp] theorem startFrame_preEnd (vh vl : BitVec sw) (rev inv verb : Bool) (r : Regs sw cw) :
    (startFrame vh vl rev inv verb r).preEnd = 0 := rfl

@[simp] theorem startFrame_short (vh vl : BitVec sw) (rev inv verb : Bool) (r : Regs sw cw) :
    (startFrame vh vl rev inv verb r).short = 0 := rfl

@[simp] theorem startFrame_long (vh vl : BitVec sw) (rev inv verb : Bool) (r : Regs sw cw) :
    (startFrame vh vl rev inv verb r).long = 0 := rfl

@[simp] theorem startFrame_run (vh vl : BitVec sw) (rev inv verb : Bool) (r : Regs sw cw) :
    (startFrame vh vl rev inv verb r).run = 0 := rfl

@[simp] theorem startFrame_startSeen (vh vl : BitVec sw) (rev inv verb : Bool) (r : Regs sw cw) :
    (startFrame vh vl rev inv verb r).startSeen = false := rfl

@[simp] theorem startFrame_acc (vh vl : BitVec sw) (rev inv verb : Bool) (r : Regs sw cw) :
    (startFrame vh vl rev inv verb r).acc = 0 := rfl

@[simp] theorem startFrame_bitcnt (vh vl : BitVec sw) (rev inv verb : Bool) (r : Regs sw cw) :
    (startFrame vh vl rev inv verb r).bitcnt = 0 := rfl

@[simp] theorem startFrame_byteCount (vh vl : BitVec sw) (rev inv verb : Bool) (r : Regs sw cw) :
    (startFrame vh vl rev inv verb r).byteCount = 0 := rfl

@[simp] theorem startFrame_diagSat (vh vl : BitVec sw) (rev inv verb : Bool) (r : Regs sw cw) :
    (startFrame vh vl rev inv verb r).diagSat = false := rfl

@[simp] theorem startFrame_bValid (vh vl : BitVec sw) (rev inv verb : Bool) (r : Regs sw cw) :
    (startFrame vh vl rev inv verb r).bValid = false := rfl

@[simp] theorem startFrame_bData (vh vl : BitVec sw) (rev inv verb : Bool) (r : Regs sw cw) :
    (startFrame vh vl rev inv verb r).bData = 0 := rfl

@[simp] theorem startFrame_symValid (vh vl : BitVec sw) (rev inv verb : Bool) (r : Regs sw cw) :
    (startFrame vh vl rev inv verb r).symValid = false := rfl

@[simp] theorem startFrame_sym (vh vl : BitVec sw) (rev inv verb : Bool) (r : Regs sw cw) :
    (startFrame vh vl rev inv verb r).sym = false := rfl

/-! ## `Regs.reset` -/

@[simp] theorem resetBlock_eq (r : Regs sw cw) : resetBlock r = Regs.reset sw cw := rfl

@[simp] theorem Regs.reset_phase : (Regs.reset sw cw).phase = .idle := rfl

@[simp] theorem Regs.reset_errCode : (Regs.reset sw cw).errCode = .none := rfl

@[simp] theorem Regs.reset_vhigh : (Regs.reset sw cw).vhigh = 0 := rfl

@[simp] theorem Regs.reset_vlow : (Regs.reset sw cw).vlow = 0 := rfl

@[simp] theorem Regs.reset_ctrl : (Regs.reset sw cw).ctrl = 0 := rfl

@[simp] theorem Regs.reset_preStart : (Regs.reset sw cw).preStart = 0 := rfl

@[simp] theorem Regs.reset_preSize : (Regs.reset sw cw).preSize = 0 := rfl

@[simp] theorem Regs.reset_preEnd : (Regs.reset sw cw).preEnd = 0 := rfl

@[simp] theorem Regs.reset_short : (Regs.reset sw cw).short = 0 := rfl

@[simp] theorem Regs.reset_long : (Regs.reset sw cw).long = 0 := rfl

@[simp] theorem Regs.reset_run : (Regs.reset sw cw).run = 0 := rfl

@[simp] theorem Regs.reset_startSeen : (Regs.reset sw cw).startSeen = false := rfl

@[simp] theorem Regs.reset_acc : (Regs.reset sw cw).acc = 0 := rfl

@[simp] theorem Regs.reset_bitcnt : (Regs.reset sw cw).bitcnt = 0 := rfl

@[simp] theorem Regs.reset_byteCount : (Regs.reset sw cw).byteCount = 0 := rfl

@[simp] theorem Regs.reset_diagSat : (Regs.reset sw cw).diagSat = false := rfl

@[simp] theorem Regs.reset_bValid : (Regs.reset sw cw).bValid = false := rfl

@[simp] theorem Regs.reset_bData : (Regs.reset sw cw).bData = 0 := rfl

@[simp] theorem Regs.reset_symValid : (Regs.reset sw cw).symValid = false := rfl

@[simp] theorem Regs.reset_sym : (Regs.reset sw cw).sym = false := rfl

/-! ## The model's own fields -/

@[simp] theorem presentNext_toRegs (v : InVector) (s : State) : (presentNext v s).toRegs = s.toRegs := rfl

@[simp] theorem presentNext_input (v : InVector) (s : State) : (presentNext v s).input = v :: s.input := rfl

@[simp] theorem presentNext_tick (v : InVector) (s : State) : (presentNext v s).tick = s.tick := rfl

@[simp] theorem State.reset_toRegs : State.reset.toRegs = Regs.reset Config.sw Config.cw := rfl

@[simp] theorem State.reset_input : State.reset.input = [] := rfl

@[simp] theorem State.reset_tick : State.reset.tick = 0 := rfl

end Sys2Proof.Machine
end

