-- ==== Sys2Proof/Laws/Ops.lean ====
section
/-! SUPPORT. What each shared operation can do, said once: later proofs cite these and do not unfold the operation. -/

namespace Sys2Proof.Machine

variable {sw cw : Nat}

/-! ## The frame of a meaning -/

/-- A meaning answers exactly one next state, and it touches the registers only. -/
theorem operate_next_iff (f : Regs Config.sw Config.cw → Regs Config.sw Config.cw) (s t : State) :
    operate f s = .next t ↔ t = { s with toRegs := f (clearStrobes s.toRegs) } := by
  constructor
  · intro h
    injection h with h
    exact h.symm
  · rintro rfl
    rfl

/-- Where the sub-operation and the dispatch agree in the allowed phases, asking by name adds nothing. -/
theorem whenPhase_eq_dispatched (allowed : Phase → Bool) (own dispatched : Regs sw cw → Regs sw cw) (r : Regs sw cw)
    (h : allowed r.phase = true → own r = dispatched r) : whenPhase allowed own dispatched r = dispatched r := by
  unfold whenPhase
  split
  · exact h ‹_›
  · rfl

theorem clearStrobes_idem (r : Regs sw cw) : clearStrobes (clearStrobes r) = clearStrobes r := rfl

/-! ## Counters -/

theorem cmax_toNat : (cmax cw).toNat = 2 ^ cw - 1 := by simp [cmax]

theorem eq_cmax_iff (c : BitVec cw) : c = cmax cw ↔ c.toNat = 2 ^ cw - 1 := by
  rw [← BitVec.toNat_inj, cmax_toNat]

/-- Increment with saturation, as a number (10_state.md R40). -/
theorem satInc_toNat (c : BitVec cw) : (satInc c).toNat = min (c.toNat + 1) (2 ^ cw - 1) := by
  have hc := c.isLt
  unfold satInc
  split
  · rename_i h
    have := (eq_cmax_iff c).1 h
    omega
  · rename_i h
    have : c.toNat ≠ 2 ^ cw - 1 := fun e => h ((eq_cmax_iff c).2 e)
    rw [BitVec.toNat_add_of_lt]
    · cases cw with
      | zero => simp at hc this; omega
      | succ n => simp; omega
    · cases cw with
      | zero => simp at hc this; omega
      | succ n => simp; omega

/-- An increment below `CMAX` does not wrap. -/
theorem succ_toNat_of_ne_cmax (c : BitVec cw) (h : c ≠ cmax cw) : (c + 1).toNat = c.toNat + 1 := by
  have hs := satInc_toNat c
  have hc := c.isLt
  have : c.toNat ≠ 2 ^ cw - 1 := fun e => h ((eq_cmax_iff c).2 e)
  simp only [satInc, if_neg h] at hs
  omega

/-! ## Preamble detector -/

/-- Everything `recordPreEnd` does (41_preamble_detector.md R124). -/
theorem recordPreEnd_spec (r : Regs sw cw) :
    ∃ e : BitVec cw, e.toNat = min (r.preStart.toNat + r.preSize.toNat) (2 ^ cw - 1) ∧
      recordPreEnd r =
        { r with
          preEnd := e
          diagSat := r.diagSat || decide (2 ^ cw - 1 < r.preStart.toNat + r.preSize.toNat) } := by
  by_cases h : 2 ^ cw - 1 < r.preStart.toNat + r.preSize.toNat
  · refine ⟨cmax cw, ?_, ?_⟩
    · rw [cmax_toNat]; omega
    · simp [recordPreEnd, cmax_toNat, h]
  · refine ⟨BitVec.ofNat cw (r.preStart.toNat + r.preSize.toNat), ?_, ?_⟩
    · have := Nat.two_pow_pos cw
      rw [BitVec.toNat_ofNat, Nat.mod_eq_of_lt] <;> omega
    · simp [recordPreEnd, cmax_toNat, h]

theorem ofNat_div_toNat (c : BitVec cw) (k : Nat) : (BitVec.ofNat cw (c.toNat / k)).toNat = c.toNat / k := by
  rw [BitVec.toNat_ofNat, Nat.mod_eq_of_lt]
  exact Nat.lt_of_le_of_lt (Nat.div_le_self _ _) c.isLt

/-- The three zero tests are one test (41_preamble_detector.md R127). -/
theorem zeroCheckFails_calibrate (r : Regs sw cw) :
    zeroCheckFails (calibrate r) = decide (r.preSize.toNat < 11) := by
  have h1 := ofNat_div_toNat r.preSize kShort
  have h2 := ofNat_div_toNat r.preSize kLong
  simp only [kShort, kLong] at h1 h2
  simp only [zeroCheckFails, calibrate_preSize, calibrate_short, calibrate_long, kShort, kLong, ← BitVec.toNat_inj, h1,
    h2, ← Bool.decide_or, decide_eq_decide]
  simp only [BitVec.toNat_zero, BitVec.ofNat_eq_ofNat]
  omega

/-- Everything `stop_ph2` does (41_preamble_detector.md R124 to R127). -/
theorem stopPh2_cases (r : Regs sw cw) :
    ∃ e sh lo : BitVec cw, e.toNat = min (r.preStart.toNat + r.preSize.toNat) (2 ^ cw - 1) ∧
      sh.toNat = r.preSize.toNat / 11 ∧ lo.toNat = r.preSize.toNat / 3 ∧
      ((11 ≤ r.preSize.toNat ∧ stopPh2 r =
          { r with
            preEnd := e
            diagSat := r.diagSat || decide (2 ^ cw - 1 < r.preStart.toNat + r.preSize.toNat)
            short := sh, long := lo, run := 0, phase := .ph3 }) ∨
       (r.preSize.toNat < 11 ∧ stopPh2 r =
          { r with
            preEnd := e
            diagSat := r.diagSat || decide (2 ^ cw - 1 < r.preStart.toNat + r.preSize.toNat)
            short := sh, long := lo, phase := .err, errCode := .calibration })) := by
  obtain ⟨e, he, hr⟩ := recordPreEnd_spec r
  refine ⟨e, _, _, he, ofNat_div_toNat r.preSize 11, ofNat_div_toNat r.preSize 3, ?_⟩
  have hz := zeroCheckFails_calibrate (recordPreEnd r)
  have hp : (recordPreEnd r).preSize = r.preSize := by rw [hr]
  rw [hp] at hz
  by_cases h : r.preSize.toNat < 11
  · right
    refine ⟨h, ?_⟩
    simp only [stopPh2, hz, h, decide_true, if_true]
    rw [hr]
    rfl
  · left
    refine ⟨by omega, ?_⟩
    simp only [stopPh2, hz, h, decide_false, Bool.false_eq_true, if_false]
    rw [hr]
    rfl

/-- Everything `smp_ph2` does (41_preamble_detector.md R122 to R124). -/
theorem smpPh2_cases (v : Int) (r : Regs sw cw) :
    (v ≤ r.vlow.toInt ∧ r.preSize = cmax cw ∧ smpPh2 v r = raise .rangeError r) ∨
    (v ≤ r.vlow.toInt ∧ r.preSize ≠ cmax cw ∧ smpPh2 v r = { r with preSize := r.preSize + 1 }) ∨
    (r.vlow.toInt < v ∧ smpPh2 v r = stopPh2 r) := by
  by_cases h : v ≤ r.vlow.toInt
  · by_cases hc : r.preSize = cmax cw
    · exact .inl ⟨h, hc, by simp [smpPh2, lowInPh2, h, hc]⟩
    · exact .inr (.inl ⟨h, hc, by simp [smpPh2, lowInPh2, h, hc]⟩)
  · exact .inr (.inr ⟨by omega, by simp [smpPh2, lowInPh2, h]⟩)

/-- Everything `smp_ph1` does (41_preamble_detector.md R120, R121). -/
theorem smpPh1_cases (v : Int) (r : Regs sw cw) :
    (r.vhigh.toInt ≤ v ∧ smpPh1 v r = satIncPreStart r) ∨
    (v < r.vhigh.toInt ∧ smpPh1 v r = smpPh2 v (setPhase .ph2 r)) := by
  by_cases h : r.vhigh.toInt ≤ v
  · exact .inl ⟨h, by simp [smpPh1, highInPh1, h]⟩
  · exact .inr ⟨by omega, by simp [smpPh1, highInPh1, h]⟩

/-! ## Classifier and reassembler -/

/-- Everything `push_symbol` does (43_frame_reassembler.md R160). -/
theorem pushSymbol_cases (b : Bool) (r : Regs sw cw) :
    (r.startSeen = false ∧ pushSymbol b r = { r with startSeen := true }) ∨
    (r.startSeen = true ∧ r.bitcnt ≠ 7 ∧
      pushSymbol b r = { r with acc := shiftIn r.acc b, bitcnt := r.bitcnt + 1 }) ∨
    (r.startSeen = true ∧ r.bitcnt = 7 ∧ pushSymbol b r = completeByte { r with acc := shiftIn r.acc b }) := by
  by_cases hs : r.startSeen = true
  · by_cases hb : r.bitcnt = 7
    · exact .inr (.inr ⟨hs, hb, by simp [pushSymbol, hs, hb]⟩)
    · exact .inr (.inl ⟨hs, hb, by simp only [pushSymbol, hs, if_true, if_neg hb]⟩)
  · simp only [Bool.not_eq_true] at hs
    exact .inl ⟨hs, by simp [pushSymbol, hs]⟩

/-- The comparator as an inequality (42_pulse_classifier.md R142). -/
theorem isShort_eq_true_iff (run long : Nat) : isShort run long = true ↔ 5 * run < 3 * long := decide_eq_true_iff

/-- The comparator's other answer (42_pulse_classifier.md R142). -/
theorem isShort_eq_false_iff (run long : Nat) : isShort run long = false ↔ 3 * long ≤ 5 * run :=
  decide_eq_false_iff_not.trans Nat.not_lt

/-- The symbol of a run that is not empty (42_pulse_classifier.md R142, R143). -/
theorem classify_of_ne_zero (run long : Nat) (rev : Bool) (h : run ≠ 0) :
    classify run long rev = some (!(xor (decide (5 * run < 3 * long)) rev)) := by
  simp only [classify, if_neg h]
  rfl

/-- The first run of a frame ends: its symbol is published and dropped (42_pulse_classifier.md R141, R146;
43_frame_reassembler.md R161). -/
theorem closeRun_of_start_bit (b : Bool) (r : Regs sw cw) (h : r.startSeen = false) :
    closeRun b r = { r with sym := b, symValid := true, startSeen := true, run := 0 } := by
  rcases pushSymbol_cases b (emitSym b r) with ⟨_, e⟩ | ⟨h', _⟩ | ⟨h', _⟩
  · rw [closeRun, e]; rfl
  · rw [emitSym_startSeen, h] at h'; cases h'
  · rw [emitSym_startSeen, h] at h'; cases h'

/-- A later run that is not the eighth of its chunk ends (43_frame_reassembler.md R162, R163). -/
theorem closeRun_of_payload (b : Bool) (r : Regs sw cw) (h : r.startSeen = true) (h7 : r.bitcnt ≠ 7) :
    closeRun b r =
      { r with sym := b, symValid := true, acc := shiftIn r.acc b, bitcnt := r.bitcnt + 1, run := 0 } := by
  rcases pushSymbol_cases b (emitSym b r) with ⟨h', _⟩ | ⟨_, _, e⟩ | ⟨_, h', _⟩
  · rw [emitSym_startSeen, h] at h'; cases h'
  · rw [closeRun, e]; rfl
  · exact absurd h' h7

/-- The eighth run of a chunk ends: the byte leaves (43_frame_reassembler.md R164 to R166). -/
theorem closeRun_of_eighth (b : Bool) (r : Regs sw cw) (h : r.startSeen = true) (h7 : r.bitcnt = 7) :
    closeRun b r =
      { r with
        sym := b, symValid := true, acc := shiftIn r.acc b, bitcnt := 0, run := 0
        bData := pack (shiftIn r.acc b) r.ctrlInv, bValid := true
        byteCount := satInc r.byteCount, diagSat := satFlag r.byteCount r.diagSat } := by
  rcases pushSymbol_cases b (emitSym b r) with ⟨h', _⟩ | ⟨_, h', _⟩ | ⟨_, _, e⟩
  · rw [emitSym_startSeen, h] at h'; cases h'
  · exact absurd h7 h'
  · rw [closeRun, e]; rfl

/-- Everything `smp_ph3` does (42_pulse_classifier.md R140, R141). -/
theorem smpPh3_cases (v : Int) (r : Regs sw cw) :
    (r.vhigh.toInt < v ∧ smpPh3 v r = incRun r) ∨
    (v ≤ r.vhigh.toInt ∧ r.run = 0 ∧ smpPh3 v r = r) ∨
    (v ≤ r.vhigh.toInt ∧ r.run ≠ 0 ∧
      smpPh3 v r = closeRun (!(xor (decide (5 * r.run.toNat < 3 * r.long.toNat)) r.ctrlRev)) r) := by
  by_cases h : r.vhigh.toInt < v
  · exact .inl ⟨h, by simp [smpPh3, highInPh3, h]⟩
  · by_cases hr : r.run = 0
    · refine .inr (.inl ⟨by omega, hr, ?_⟩)
      simp [smpPh3, highInPh3, h, classify, hr]
    · refine .inr (.inr ⟨by omega, hr, ?_⟩)
      have hn : r.run.toNat ≠ 0 := fun e => hr (BitVec.eq_of_toNat_eq (by simpa using e))
      simp only [smpPh3, highInPh3, h, decide_false, Bool.false_eq_true, if_false, classify_of_ne_zero _ _ _ hn]

/-! ## Dispatch -/

/-- Everything the dispatch of a sample does (40_control_ops.md R110). -/
theorem smp_cases (v : Int) (r : Regs sw cw) :
    (r.phase = .ph1 ∧ smp v r = smpPh1 v r) ∨ (r.phase = .ph2 ∧ smp v r = smpPh2 v r) ∨
    (r.phase = .ph3 ∧ smp v r = smpPh3 v r) ∨ (scanning r.phase = false ∧ smp v r = r) := by
  unfold smp
  cases h : r.phase <;> simp [scanning]

theorem smp_of_ph1 (v : Int) (r : Regs sw cw) (h : r.phase = .ph1) : smp v r = smpPh1 v r := by simp only [smp, h]

theorem smp_of_ph2 (v : Int) (r : Regs sw cw) (h : r.phase = .ph2) : smp v r = smpPh2 v r := by simp only [smp, h]

theorem smp_of_ph3 (v : Int) (r : Regs sw cw) (h : r.phase = .ph3) : smp v r = smpPh3 v r := by simp only [smp, h]

theorem smp_of_not_scanning (v : Int) (r : Regs sw cw) (h : scanning r.phase = false) : smp v r = r := by
  rcases smp_cases v r with ⟨a, _⟩ | ⟨a, _⟩ | ⟨a, _⟩ | ⟨_, b⟩
  · rw [a] at h; cases h
  · rw [a] at h; cases h
  · rw [a] at h; cases h
  · exact b

/-- Everything the dispatch of the end of capture does (40_control_ops.md R104 to R107, R111). -/
theorem endCapture_cases (r : Regs sw cw) :
    (r.phase = .ph1 ∧ r.preStart = 0 ∧ endCapture r = raise .inputError r) ∨
    (r.phase = .ph1 ∧ r.preStart ≠ 0 ∧ endCapture r = raise .calibrationError r) ∨
    (r.phase = .ph2 ∧ endCapture r = raise .calibrationError r) ∨
    (r.phase = .ph3 ∧ endCapture r = setPhase .done r) ∨
    (scanning r.phase = false ∧ endCapture r = r) := by
  unfold endCapture
  cases h : r.phase <;> simp only [scanning, endPh1, endPh2, endPh3, reduceCtorEq, false_and, or_false,
    false_or, true_and, and_self, Bool.true_eq_false]
  by_cases hp : r.preStart = 0
  · exact .inl ⟨hp, if_pos hp⟩
  · exact .inr ⟨hp, if_neg hp⟩

/-- Everything the pseudocode of the step does (40_control_ops.md R109). -/
theorem clock_cases (p : Pins sw) (r : Regs sw cw) :
    (p.rst = true ∧ clock p r = Regs.reset sw cw) ∨
    (p.rst = false ∧ p.start = true ∧
      clock p r = startFrame p.cfgVhigh p.cfgVlow p.cfgReverse p.cfgInvert p.cfgVerbose (clearStrobes r)) ∨
    (p.rst = false ∧ p.start = false ∧ p.sEnd = true ∧ p.sValid = true ∧
      clock p r = endCapture (smp (sampleOf p.sData) (clearStrobes r))) ∨
    (p.rst = false ∧ p.start = false ∧ p.sEnd = true ∧ p.sValid = false ∧
      clock p r = endCapture (clearStrobes r)) ∨
    (p.rst = false ∧ p.start = false ∧ p.sEnd = false ∧ p.sValid = true ∧
      clock p r = smp (sampleOf p.sData) (clearStrobes r)) ∨
    (p.rst = false ∧ p.start = false ∧ p.sEnd = false ∧ p.sValid = false ∧ clock p r = clearStrobes r) := by
  unfold clock
  cases p.rst <;> cases p.start <;> cases p.sEnd <;> cases p.sValid <;> simp

/-! ## The meanings, at once -/

/-- What each instruction does to the registers after the default clear. -/
def effect : Instr → Regs Config.sw Config.cw → Regs Config.sw Config.cw
  | .rst => resetBlock
  | .start vh vl rev inv verb => startFrame vh vl rev inv verb
  | .smpe d => fun r => endCapture (smp (sampleOf d) r)
  | .endOp => endCapture
  | .smp d => smp (sampleOf d)
  | .nop => fun r => r
  | .smpPh1 d => whenPhase (fun p => decide (p = .ph1)) (smpPh1 (sampleOf d)) (smp (sampleOf d))
  | .smpPh2 d => whenPhase (fun p => decide (p = .ph2)) (smpPh2 (sampleOf d)) (smp (sampleOf d))
  | .smpPh3 d => whenPhase (fun p => decide (p = .ph3)) (smpPh3 (sampleOf d)) (smp (sampleOf d))
  | .smpX d => whenPhase (fun p => !scanning p) (fun r => r) (smp (sampleOf d))
  | .endPh1 => whenPhase (fun p => decide (p = .ph1)) endPh1 endCapture
  | .endPh2 => whenPhase (fun p => decide (p = .ph2)) endPh2 endCapture
  | .endPh3 => whenPhase (fun p => decide (p = .ph3)) endPh3 endCapture
  | .endX => whenPhase (fun p => !scanning p) (fun r => r) endCapture

/-- Every meaning is its effect in the common frame. -/
theorem exec_eq_operate (i : Instr) (s : State) : exec i s = operate (effect i) s := by cases i <;> rfl

/-- What a next state of an instruction is, said once for all instructions. -/
theorem exec_next_iff (i : Instr) (s t : State) :
    exec i s = .next t ↔ t = { s with toRegs := effect i (clearStrobes s.toRegs) } := by
  rw [exec_eq_operate, operate_next_iff]

/-! ## Sampling the pins -/

/-- A listed vector is the one sampled (log entry 2). -/
theorem sampleInput_of_listed (s : State) (v : InVector) (rest : List InVector) (h : s.input = v :: rest) :
    sampleInput s = (v, { s with input := rest }) := by
  simp [sampleInput, h]

/-- With none listed the free value is sampled (log entry 3). -/
theorem sampleInput_of_empty (s : State) (h : s.input = []) :
    sampleInput s = (Config.undrivenPins s.tick, { s with tick := s.tick + 1 }) := by
  simp [sampleInput, h]

end Sys2Proof.Machine
end

