-- ==== Sys2Proof/Laws/PerInstr.lean ====
section
/-! SUPPORT. The family `EncodesRow`, one lemma per constructor of `Instr`: outside its operand fields an instruction's input
vector is its row's match bits, the ignored bits 0 (30_encoding.md R88, R91). -/

namespace Sys2Proof

/-- The bit of a placed field (30_encoding.md R80). -/
theorem fieldAt_getLsbD {w : Nat} (sw : Nat) (x : BitVec w) (lo k : Nat) :
    (fieldAt sw x lo).getLsbD k = (decide (k < Config.inWidth sw) && (decide (lo ≤ k) && x.getLsbD (k - lo))) := by
  simp only [fieldAt, BitVec.getLsbD_shiftLeft, BitVec.getLsbD_setWidth]
  by_cases h : k < Config.inWidth sw
  · have : k - lo < Config.inWidth sw := by omega
    by_cases hl : lo ≤ k
    · have : ¬ k < lo := by omega
      simp [*]
    · have : k < lo := by omega
      simp [*]
  · simp [h]

/-- A field has no bit in a mask that is 0 over the field. -/
theorem fieldAt_and_eq_zero {w : Nat} (sw : Nat) (x : BitVec w) (lo : Nat) (m : BitVec (Config.inWidth sw))
    (h : ∀ k < w, m.getLsbD (lo + k) = false) : fieldAt sw x lo &&& m = 0 := by
  apply BitVec.eq_of_getLsbD_eq
  intro k hk
  rw [BitVec.getLsbD_and, fieldAt_getLsbD]
  by_cases hl : lo ≤ k
  · by_cases hw : k - lo < w
    · have := h _ hw
      rw [Nat.add_sub_cancel' hl] at this
      simp [this]
    · simp [BitVec.getLsbD_of_ge _ _ (Nat.le_of_not_lt hw)]
  · simp [hl]

/-- Masking distributes over the fields. -/
theorem or_and_distrib {w : Nat} (a b m : BitVec w) : (a ||| b) &&& m = (a &&& m) ||| (b &&& m) := by
  apply BitVec.eq_of_getLsbD_eq
  intro k _
  simp [Bool.and_or_distrib_right]

/-- A sample field is 0 outside the low 16 bits of `IN`. -/
theorem sampleField_and_other (d : BitVec Config.sw) : fieldAt Config.sw d 0 &&& ~~~0x0000000000FFFF#55 = 0 :=
  fieldAt_and_eq_zero _ _ _ _ (by decide)

/-- The family's statement: the bits of `encode i` that are no operand bits of its row are the row's match bits, and 0. -/
def Laws.EncodesRow.Statement (i : Instr) : Prop := encode i &&& ~~~i.rowOperands = i.rowMatch

theorem Laws.EncodesRow.rst : Laws.EncodesRow.Statement .rst := by
  show encode .rst &&& _ = _
  decide

theorem Laws.EncodesRow.endOp : Laws.EncodesRow.Statement .endOp := by
  show encode .endOp &&& _ = _
  decide

theorem Laws.EncodesRow.nop : Laws.EncodesRow.Statement .nop := by
  show encode .nop &&& _ = _
  decide

/-- The vector of `SMP d` is the sample field and the bit `s_valid`. -/
theorem encode_smp (d : BitVec Config.sw) : encode (.smp d) = fieldAt Config.sw d 0 ||| 0x08000000000000#55 := by
  have h : (Pins.ofSmp (0 : BitVec Config.sw)).toVector = 0x08000000000000#55 := by decide
  rw [← h]
  apply BitVec.eq_of_getLsbD_eq
  intro k _
  simp [encode, Instr.pins, Pins.ofSmp, Pins.nop, Pins.toVector, fieldAt]

/-- The vector of `SMPE d` is the sample field and the bits `s_valid` and `s_end`. -/
theorem encode_smpe (d : BitVec Config.sw) : encode (.smpe d) = fieldAt Config.sw d 0 ||| 0x18000000000000#55 := by
  have h : (Pins.ofSmpe (0 : BitVec Config.sw)).toVector = 0x18000000000000#55 := by decide
  rw [← h]
  apply BitVec.eq_of_getLsbD_eq
  intro k _
  simp [encode, Instr.pins, Pins.ofSmpe, Pins.nop, Pins.toVector, fieldAt, Bool.or_assoc]

theorem Laws.EncodesRow.smp (d : BitVec Config.sw) : Laws.EncodesRow.Statement (.smp d) := by
  show encode (.smp d) &&& ~~~0x0000000000FFFF#55 = 0x08000000000000#55
  rw [encode_smp, or_and_distrib, sampleField_and_other]
  decide

theorem Laws.EncodesRow.smpe (d : BitVec Config.sw) : Laws.EncodesRow.Statement (.smpe d) := by
  show encode (.smpe d) &&& ~~~0x0000000000FFFF#55 = 0x18000000000000#55
  rw [encode_smpe, or_and_distrib, sampleField_and_other]
  decide

theorem Laws.EncodesRow.start (vh vl : BitVec Config.sw) (rev inv verb : Bool) :
    Laws.EncodesRow.Statement (.start vh vl rev inv verb) := by
  show (Pins.ofStart vh vl rev inv verb).toVector &&& ~~~0x07FFFFFFFF0000#55 = 0x20000000000000#55
  simp only [Pins.toVector, Pins.ofStart, Pins.nop, or_and_distrib]
  rw [fieldAt_and_eq_zero _ vh _ _ (by decide), fieldAt_and_eq_zero _ vl _ _ (by decide),
    fieldAt_and_eq_zero _ (BitVec.ofBool rev) _ _ (by decide), fieldAt_and_eq_zero _ (BitVec.ofBool inv) _ _ (by decide),
    fieldAt_and_eq_zero _ (BitVec.ofBool verb) _ _ (by decide)]
  decide

theorem Laws.EncodesRow.smpPh1 (d : BitVec Config.sw) : Laws.EncodesRow.Statement (.smpPh1 d) :=
  Laws.EncodesRow.smp d

theorem Laws.EncodesRow.smpPh2 (d : BitVec Config.sw) : Laws.EncodesRow.Statement (.smpPh2 d) :=
  Laws.EncodesRow.smp d

theorem Laws.EncodesRow.smpPh3 (d : BitVec Config.sw) : Laws.EncodesRow.Statement (.smpPh3 d) :=
  Laws.EncodesRow.smp d

theorem Laws.EncodesRow.smpX (d : BitVec Config.sw) : Laws.EncodesRow.Statement (.smpX d) :=
  Laws.EncodesRow.smp d

theorem Laws.EncodesRow.endPh1 : Laws.EncodesRow.Statement .endPh1 := Laws.EncodesRow.endOp

theorem Laws.EncodesRow.endPh2 : Laws.EncodesRow.Statement .endPh2 := Laws.EncodesRow.endOp

theorem Laws.EncodesRow.endPh3 : Laws.EncodesRow.Statement .endPh3 := Laws.EncodesRow.endOp

theorem Laws.EncodesRow.endX : Laws.EncodesRow.Statement .endX := Laws.EncodesRow.endOp

end Sys2Proof
end

