-- ==== Sys2Proof/Tests/Slice0.lean ====
section
/-! SUPPORT. Small tests, their expected results taken from spec/95_test_vectors.md or written out from the encoding of
30_encoding.md, and for every statement with hypotheses a witness that meets them. -/

namespace Sys2Proof.Tests

open Sys2Proof.Machine

/-! ## Well-formedness: one ill-formed term for each row the check refuses (30_encoding.md R82) -/

theorem test_wf_refuses_smpPh1 : (Instr.smpPh1 3#16).wellFormed = false := by decide
theorem test_wf_refuses_smpPh2 : (Instr.smpPh2 3#16).wellFormed = false := by decide
theorem test_wf_refuses_smpPh3 : (Instr.smpPh3 3#16).wellFormed = false := by decide
theorem test_wf_refuses_smpX : (Instr.smpX 3#16).wellFormed = false := by decide
theorem test_wf_refuses_endPh1 : Instr.endPh1.wellFormed = false := by decide
theorem test_wf_refuses_endPh2 : Instr.endPh2.wellFormed = false := by decide
theorem test_wf_refuses_endPh3 : Instr.endPh3.wellFormed = false := by decide
theorem test_wf_refuses_endX : Instr.endX.wellFormed = false := by decide
theorem test_wf_accepts_smp : (Instr.smp 3#16).wellFormed = true := by decide

/-! ## Decoding: words of 30_encoding.md R88 and 95_test_vectors.md section 2 -/

theorem test_decode_rst : decode 0x40000000000000#55 = .rst := by decide
/-- V-E7. -/
theorem test_decode_start : decode 0x23FFCE00640000#55 = .start 100#16 (-50#16) true true false := by decide
/-- V-E6. -/
theorem test_decode_start_verb : decode 0x24000100020000#55 = .start 2#16 1#16 false false true := by decide
/-- V-E13. -/
theorem test_decode_smpe : decode 0x18000000000003#55 = .smpe 3#16 := by decide
/-- V-E19: `s_data` is ignored. -/
theorem test_decode_end : decode 0x10000000001234#55 = .endOp := by decide
/-- V-E9. -/
theorem test_decode_smp : decode 0x0800000000FFC4#55 = .smp (-60#16) := by decide
/-- V-E18: all `cfg_*` bits set are ignored. -/
theorem test_decode_smp_ignores_cfg : decode 0x0FFFFFFFFF0005#55 = .smp 5#16 := by decide
theorem test_decode_nop : decode 0x00000000000000#55 = .nop := by decide
/-- V-E16: `rst` wins. -/
theorem test_decode_rst_wins : decode 0x78000000000007#55 = .rst := by decide
/-- V-E17: `start` wins over `s_end` and `s_valid`. -/
theorem test_decode_start_wins : decode 0x38000000000007#55 = .start 0#16 0#16 false false false := by decide
/-- The words of the rows `SMP.PH1`, `SMP.PH2`, `SMP.PH3`, `SMP.X` are those of `SMP` (30_encoding.md R91). -/
theorem test_decode_smp_rows :
    decode (encode (.smpPh1 7#16)) = .smp 7#16 ∧ decode (encode (.smpPh2 7#16)) = .smp 7#16
      ∧ decode (encode (.smpPh3 7#16)) = .smp 7#16 ∧ decode (encode (.smpX 7#16)) = .smp 7#16 := by decide
/-- The words of the rows `END.PH1`, `END.PH2`, `END.PH3`, `END.X` are those of `END` (30_encoding.md R91). -/
theorem test_decode_end_rows :
    decode (encode .endPh1) = .endOp ∧ decode (encode .endPh2) = .endOp
      ∧ decode (encode .endPh3) = .endOp ∧ decode (encode .endX) = .endOp := by decide

/-- The example encodings of 30_encoding.md R88. -/
theorem test_encode_examples :
    encode .rst = 0x40000000000000#55 ∧ encode (.start 2#16 1#16 false false false) = 0x20000100020000#55
      ∧ encode (.start 100#16 (-50#16) true true false) = 0x23FFCE00640000#55
      ∧ encode (.smp 3#16) = 0x08000000000003#55 ∧ encode (.smp (-60#16)) = 0x0800000000FFC4#55
      ∧ encode (.smpe 0#16) = 0x18000000000000#55 ∧ encode .endOp = 0x10000000000000#55
      ∧ encode .nop = 0x00000000000000#55 := by decide

theorem test_tableWord_smp : decodeTableWord 56 0x08000000000003 = some (.smp 3#16) := by decide
theorem test_tableWord_rejects_bit_55 : decodeTableWord 56 0x80000000000000 = none := by decide
theorem test_decodeNat_rejects_by_name : decodeNat (2 ^ 55) = .error .widerThanInputVector := by rfl

/-! ## One step of each instruction -/

/-- The state after an instruction. -/
def after (i : Instr) (s : State) : State :=
  match exec i s with
  | .next t => t
  | .fault _ => s
  | .refused _ => s

/-- `PHASE = 1` with thresholds 2 and 1 and `PRE_START = n`. -/
def inPh1 (n : Nat) : State :=
  { State.reset with phase := .ph1, vhigh := 2#16, vlow := 1#16, preStart := BitVec.ofNat 32 n }

/-- `PHASE = 2` with thresholds 2 and 1, `PRE_START = 2` and `PRE_SIZE = n`. -/
def inPh2 (n : Nat) : State :=
  { State.reset with
    phase := .ph2, vhigh := 2#16, vlow := 1#16, preStart := 2#32, preSize := BitVec.ofNat 32 n }

/-- `PHASE = 3` after 15 low samples, with `VHIGH = 2`, `LONG = 5`, `RUN = n`, `START_SEEN = b`, `BITCNT = k`,
`ACC = 0x58`. -/
def inPh3 (n : Nat) (b : Bool) (k : Nat) : State :=
  { State.reset with
    phase := .ph3, vhigh := 2#16, vlow := 1#16, preStart := 2#32, preSize := 15#32, preEnd := 17#32
    short := 1#32, long := 5#32, run := BitVec.ofNat 32 n, startSeen := b, bitcnt := BitVec.ofNat 3 k, acc := 0x58#8 }

/-- `PHASE = 5` as Program A leaves it. -/
def inErr : State :=
  { State.reset with
    phase := .err, errCode := .calibration, vhigh := 2#16, vlow := 1#16
    preStart := 3#32, preSize := 9#32, preEnd := 12#32, long := 3#32 }

/-- V-D16. -/
theorem test_rst : (after .rst inErr).toRegs = State.reset.toRegs := by decide
/-- Program C, step 1: `CTRL = 3`. -/
theorem test_start : (after (.start 100#16 (-50#16) true true false) inErr).toRegs =
    { Regs.reset 16 32 with phase := .ph1, vhigh := 100#16, vlow := -50#16, ctrl := 3#3 } := by decide
/-- V-B4. -/
theorem test_nop_clears_strobes :
    (after .nop { inPh3 0 true 0 with bValid := true, symValid := true, bData := 0xB1#8, sym := true }).toRegs =
      { inPh3 0 true 0 with bData := 0xB1#8, sym := true }.toRegs := by decide
/-- V-P1: equality is high in Phase 1. -/
theorem test_smp_ph1_high : (after (.smp 2#16) (inPh1 2)).toRegs = (inPh1 3).toRegs := by decide
/-- V-P2: the stop sample of Phase 1 is counted by Phase 2. -/
theorem test_smpPh1_stop :
    (after (.smpPh1 0#16) (inPh1 3)).toRegs = { inPh1 3 with phase := .ph2, preSize := 1#32 }.toRegs := by decide
/-- V-P4: `VLOW < v < VHIGH`. -/
theorem test_smpPh1_between :
    (after (.smpPh1 1#16) { inPh1 3 with vlow := 0#16 }).toRegs =
      { inPh1 3 with vlow := 0#16, phase := .err, errCode := .calibration, preEnd := 3#32 }.toRegs := by decide
/-- V-P9, signed thresholds: `PRE_SIZE = 5` is too short. -/
theorem test_smpPh2_too_short :
    (after (.smpPh2 (-49#16))
        { State.reset with phase := .ph2, vlow := -50#16, preSize := 5#32 }).toRegs =
      { State.reset with
        phase := .err, errCode := .calibration, vlow := -50#16, preSize := 5#32, preEnd := 5#32, long := 1#32 }.toRegs := by
  decide
/-- V-P10. -/
theorem test_smpPh2_stop :
    (after (.smpPh2 3#16) (inPh2 15)).toRegs =
      { inPh2 15 with phase := .ph3, preEnd := 17#32, short := 1#32, long := 5#32 }.toRegs := by decide
/-- V-B1c: `15 < 15` is false, the run is long. -/
theorem test_smpPh3_long :
    (after (.smpPh3 0#16) { inPh3 3 true 0 with acc := 0#8 }).toRegs =
      { inPh3 0 true 1 with acc := 1#8, sym := true, symValid := true }.toRegs := by decide
/-- V-B2: the byte in reversed order. -/
theorem test_smpPh3_byte_inverted :
    (after (.smpPh3 1#16) { inPh3 3 true 7 with ctrl := 2#3 }).toRegs =
      { inPh3 0 true 0 with
        ctrl := 2#3, acc := 0xB1#8, bData := 0x8D#8, bValid := true, byteCount := 1#32
        sym := true, symValid := true }.toRegs := by decide
/-- V-B1e: the START bit is published and dropped. -/
theorem test_smp_start_bit :
    (after (.smp 0#16) (inPh3 3 false 0)).toRegs =
      { inPh3 0 true 0 with sym := true, symValid := true }.toRegs := by decide
/-- Program A, step 15. -/
theorem test_smpX_ignored : (after (.smpX 3#16) inErr).toRegs = inErr.toRegs := by decide
/-- V-D1. -/
theorem test_endPh1_empty :
    (after .endPh1 (inPh1 0)).toRegs = { inPh1 0 with phase := .err, errCode := .input }.toRegs := by decide
/-- V-D2. -/
theorem test_end_all_high :
    (after .endOp (inPh1 3)).toRegs = { inPh1 3 with phase := .err, errCode := .calibration }.toRegs := by decide
/-- V-D4: an error although `PRE_SIZE >= 11`. -/
theorem test_endPh2 :
    (after .endPh2 (inPh2 12)).toRegs = { inPh2 12 with phase := .err, errCode := .calibration }.toRegs := by decide
/-- 40_control_ops.md R106, its example. -/
theorem test_endPh3 :
    (after .endPh3 { inPh3 2 true 3 with byteCount := 1#32 }).toRegs =
      { inPh3 2 true 3 with byteCount := 1#32, phase := .done }.toRegs := by decide
theorem test_endX_ignored : (after .endX inErr).toRegs = inErr.toRegs := by decide
/-- 40_control_ops.md R108, its example: the byte of the last sample and `DONE` in one step. -/
theorem test_smpe_byte_and_done :
    (after (.smpe 0#16) (inPh3 1 true 7)).toRegs =
      { inPh3 0 true 0 with
        phase := .done, acc := 0xB0#8, bData := 0xB0#8, bValid := true, byteCount := 1#32
        sym := false, symValid := true }.toRegs := by decide
/-- V-D11: the `END` half sees the phase the `SMP` half made. -/
theorem test_smpe_two_phases :
    (after (.smpe 0#16) (inPh1 1)).toRegs =
      { inPh1 1 with phase := .err, errCode := .calibration, preSize := 1#32 }.toRegs := by decide

/-! ## The block at `CW = 4` (95_test_vectors.md V-P12 to V-P14, V-B1f) -/

/-- V-P12. -/
theorem test_cw4_range_error :
    clock (Pins.ofSmp 0#16) { Regs.reset 16 4 with phase := .ph2, vlow := 1#16, preSize := 15#4 } =
      { Regs.reset 16 4 with phase := .err, errCode := .range, vlow := 1#16, preSize := 15#4 } := by decide
/-- V-P13. -/
theorem test_cw4_preStart_saturates :
    clock (Pins.ofSmp 9#16) { Regs.reset 16 4 with phase := .ph1, vhigh := 2#16, preStart := 15#4 } =
      { Regs.reset 16 4 with phase := .ph1, vhigh := 2#16, preStart := 15#4, diagSat := true } := by decide
/-- V-P14. -/
theorem test_cw4_preEnd_saturates :
    clock (Pins.ofSmp 9#16)
        { Regs.reset 16 4 with phase := .ph2, vlow := 1#16, preStart := 15#4, preSize := 15#4 } =
      { Regs.reset 16 4 with
        phase := .ph3, vlow := 1#16, preStart := 15#4, preSize := 15#4, preEnd := 15#4, diagSat := true
        short := 1#4, long := 5#4 } := by decide
/-- V-B1f. -/
theorem test_cw4_run_saturates :
    clock (Pins.ofSmp 9#16) { Regs.reset 16 4 with phase := .ph3, vhigh := 2#16, run := 15#4 } =
      { Regs.reset 16 4 with phase := .ph3, vhigh := 2#16, run := 15#4 } := by decide

/-! ## Classifier, packer, reassembler, reference -/

/-- 95_test_vectors.md section 3, rows 3, 5, 7 and S8. -/
theorem test_classify_boundaries :
    classify 1 3 false = some false ∧ classify 2 3 false = some true ∧ classify 2 5 false = some false
      ∧ classify 3 5 false = some true ∧ classify 4 7 false = some false ∧ classify 5 7 false = some true
      ∧ classify 4 7 true = some true ∧ classify 0 7 true = none := by decide
/-- 95_test_vectors.md section 7, the pairs of `bitrev8`. -/
theorem test_bitrev8_pairs :
    bitrev8 0x01#8 = 0x80#8 ∧ bitrev8 0xB1#8 = 0x8D#8 ∧ bitrev8 0x9D#8 = 0xB9#8 ∧ bitrev8 0x12#8 = 0x48#8
      ∧ bitrev8 0x66#8 = 0x66#8 := by decide
/-- V-R5, the document's start-bit example corrected (43_frame_reassembler.md R170). -/
theorem test_start_bit_example :
    pushedBytes [true, false, true, true, false, false, true, true, false, false, false, true] (Regs.reset 16 32)
      = [0x66#8] := by decide
/-- V-D8a and V-D8b: 10 low samples are too few, 11 calibrate. -/
theorem test_reference_eleven :
    decodeRef (List.replicate 10 0 ++ [3]) 2 1 false false = .fails .calibrationError
      ∧ decodeRef (List.replicate 11 0 ++ [3]) 2 1 false false = .packet [] := by decide

/-- The codes of `PHASE` and `ERR_CODE` (10_state.md R22, R25), on the pins and as `x[0]`, `x[1]`. -/
theorem test_phase_and_error_codes :
    [Phase.idle, .ph1, .ph2, .ph3, .done, .err].map (fun p => (outPins { Regs.reset 16 32 with phase := p }).phase)
      = [0, 1, 2, 3, 4, 5] ∧
    [ErrCode.none, .calibration, .input, .range].map
      (fun e => (outPins { Regs.reset 16 32 with errCode := e }).errCode) = [0, 1, 2, 3] ∧
    inErr.x 0 = 5 ∧ inErr.x 1 = 1 := by decide

/-! ## Witnesses: the hypotheses of the statements can be met -/

/-- A state with one vector listed, `SMP 3`. -/
def listed : State := { State.reset with input := [0x08000000000003#55] }

theorem witness_DecodeFollowsControlPinPriority :
    (0x78000000000007#55 : InVector).getLsbD 54 = true ∧
    ((0x38000000000007#55 : InVector).getLsbD 54 = false ∧ (0x38000000000007#55 : InVector).getLsbD 53 = true) ∧
    ((0x18000000000003#55 : InVector).getLsbD 54 = false ∧ (0x18000000000003#55 : InVector).getLsbD 53 = false
      ∧ (0x18000000000003#55 : InVector).getLsbD 52 = true ∧ (0x18000000000003#55 : InVector).getLsbD 51 = true) ∧
    ((0x10000000001234#55 : InVector).getLsbD 54 = false ∧ (0x10000000001234#55 : InVector).getLsbD 53 = false
      ∧ (0x10000000001234#55 : InVector).getLsbD 52 = true ∧ (0x10000000001234#55 : InVector).getLsbD 51 = false) ∧
    ((0x0FFFFFFFFF0005#55 : InVector).getLsbD 54 = false ∧ (0x0FFFFFFFFF0005#55 : InVector).getLsbD 53 = false
      ∧ (0x0FFFFFFFFF0005#55 : InVector).getLsbD 52 = false ∧ (0x0FFFFFFFFF0005#55 : InVector).getLsbD 51 = true) ∧
    ((0x07FFFFFFFFFFFF#55 : InVector).getLsbD 54 = false ∧ (0x07FFFFFFFFFFFF#55 : InVector).getLsbD 53 = false
      ∧ (0x07FFFFFFFFFFFF#55 : InVector).getLsbD 52 = false ∧ (0x07FFFFFFFFFFFF#55 : InVector).getLsbD 51 = false) := by
  decide

theorem witness_DecodeOfEncodeIsTheInstruction : (Instr.start 2#16 1#16 true false true).wellFormed = true := by decide

theorem witness_OnlyTheDecodedRowMatches :
    Instr.endOp.wellFormed = true ∧ (0x10000000001234#55 &&& Instr.endOp.rowMask = Instr.endOp.rowMatch) := by decide

theorem witness_StepRunsTheDecodedOperation :
    (listed.input = 0x08000000000003#55 :: [] ∧ decode 0x08000000000003#55 = .smp 3#16
      ∧ (Instr.smp 3#16).wellFormed = true) ∧
    State.reset.input = [] ∧ ∃ t, exec (.smp 3#16) (inPh1 0) = .next t :=
  ⟨by decide, rfl, _, rfl⟩

theorem witness_PresentedWordIsRunNext : decodeTableWord 56 0x20000100020000 = some (.start 2#16 1#16 false false false) := by
  decide

theorem witness_StepIsThePseudocodeOnThePins : listed.input = 0x08000000000003#55 :: [] := rfl

theorem witness_EveryStepFirstClearsTheStrobes :
    (after (.smpe 0#16) (inPh3 1 true 7)).bValid = true ∧ (after (.smpe 0#16) (inPh3 1 true 7)).symValid = true
      ∧ ∃ a, exec (.smp 0#16) (inPh3 1 true 7) = .next a :=
  ⟨by decide, by decide, _, rfl⟩

theorem witness_RstClearsAllTwentyRegisters :
    (∃ t, exec .rst inErr = .next t) ∧ (0x78000000000007#55 : InVector).getLsbD 54 = true := ⟨⟨_, rfl⟩, by decide⟩

theorem witness_StartLatchesConfigurationAndClears :
    ((0x38000000000007#55 : InVector).getLsbD 54 = false ∧ (0x38000000000007#55 : InVector).getLsbD 53 = true) ∧
    ∃ t, exec .endOp (inPh1 0) = .next t ∧ Instr.endOp ≠ .rst ∧
      ∀ vh vl rev inv verb, Instr.endOp ≠ .start vh vl rev inv verb :=
  ⟨by decide, _, rfl, by decide, by intros; exact Instr.noConfusion⟩

theorem witness_SamplesAndEndsAreIgnoredOutsideAFrame :
    State.reset.phase = .idle ∧ inErr.phase = .err ∧ { inErr with phase := .done }.phase = .done := by decide

theorem witness_PhaseSelectsTheSubOperation :
    (inPh1 0).phase = .ph1 ∧ (inPh2 1).phase = .ph2 ∧ (inPh3 0 false 0).phase = .ph3 ∧ State.reset.phase = .idle := by
  decide

/-- The boundary values of the two clauses: `PRE_START` 0 and 1. -/
theorem witness_EndInPhase1RaisesInputOrCalibrationError :
    ((inPh1 0).phase = .ph1 ∧ (inPh1 0).preStart = 0) ∧ ((inPh1 1).phase = .ph1 ∧ (inPh1 1).preStart ≠ 0) := by decide

theorem witness_EndInPhase2RaisesCalibrationError : (inPh2 12).phase = .ph2 := by decide

theorem witness_EndInPhase3CompletesTheFrame : (inPh3 2 true 3).phase = .ph3 := by decide

/-- The `SMP` half raises. -/
theorem witness_SmpeIsSmpThenEndInOneStep : (after (.smp 3#16) (inPh2 10)).phase = .err := by decide

/-- The boundary values: the sample equals `VHIGH`; `PRE_START` is `CMAX - 1` and `CMAX`. -/
theorem witness_Phase1CountsALeadingHighSample :
    ((inPh1 4294967294).phase = .ph1 ∧ (inPh1 4294967294).vhigh.toInt ≤ (2#16).toInt
      ∧ (inPh1 4294967294).preStart ≠ 4294967295#32) ∧
    ((inPh1 4294967295).phase = .ph1 ∧ (inPh1 4294967295).vhigh.toInt ≤ (2#16).toInt
      ∧ (inPh1 4294967295).preStart = 4294967295#32) := by decide

/-- The boundary values: the sample equals `VLOW`, and lies just above it. -/
theorem witness_Phase1StopSampleIsGivenToPhase2 :
    ((inPh1 3).phase = .ph1 ∧ (1#16).toInt < (inPh1 3).vhigh.toInt ∧ (inPh1 3).preSize = 0
      ∧ (1#16).toInt ≤ (inPh1 3).vlow.toInt) ∧
    ({ inPh1 3 with vlow := 0#16 }.phase = .ph1 ∧ (1#16).toInt < { inPh1 3 with vlow := 0#16 }.vhigh.toInt
      ∧ { inPh1 3 with vlow := 0#16 }.preSize = 0 ∧ { inPh1 3 with vlow := 0#16 }.vlow.toInt < (1#16).toInt) := by decide

/-- The boundary values: `PRE_SIZE` is `CMAX - 1` and `CMAX`. -/
theorem witness_Phase2CountsALowSampleOrRaisesRangeError :
    ((inPh2 4294967294).phase = .ph2 ∧ (1#16).toInt ≤ (inPh2 4294967294).vlow.toInt
      ∧ (inPh2 4294967294).preSize ≠ 4294967295#32) ∧
    ((inPh2 4294967295).phase = .ph2 ∧ (1#16).toInt ≤ (inPh2 4294967295).vlow.toInt
      ∧ (inPh2 4294967295).preSize = 4294967295#32) := by decide

/-- The boundary values: 11 low samples calibrate, 10 do not. -/
theorem witness_Phase2StopSampleCalibrates :
    ((inPh2 11).phase = .ph2 ∧ (inPh2 11).vlow.toInt < (2#16).toInt ∧ (inPh2 11).preSize ≠ 0
      ∧ (after (.smp 2#16) (inPh2 11)).phase = .ph3) ∧
    ((inPh2 10).phase = .ph2 ∧ (inPh2 10).vlow.toInt < (2#16).toInt
      ∧ (after (.smp 2#16) (inPh2 10)).short = 0 ∧ (after (.smp 2#16) (inPh2 10)).phase = .err) := by decide

theorem witness_ElevenLowSamplesCalibrate :
    Config.Legal 16 32 ∧ Config.Legal 2 4 ∧ 11 ≤ (inPh2 11).preSize.toNat ∧ (inPh2 10).preSize.toNat < 11 := by decide

theorem witness_Phase3HighSampleExtendsTheRun :
    ((inPh3 1 true 0).phase = .ph3 ∧ (inPh3 1 true 0).vhigh.toInt < (3#16).toInt
      ∧ (inPh3 1 true 0).run ≠ 4294967295#32) ∧
    ((inPh3 4294967295 true 0).vhigh.toInt < (3#16).toInt ∧ (inPh3 4294967295 true 0).run = 4294967295#32) := by decide

theorem witness_Phase3GapSampleWithoutARunDoesNothing :
    (inPh3 0 true 0).phase = .ph3 ∧ (2#16).toInt ≤ (inPh3 0 true 0).vhigh.toInt ∧ (inPh3 0 true 0).run = 0 := by decide

theorem witness_FirstRunOfAFrameIsTheStartBit :
    (inPh3 1 false 0).phase = .ph3 ∧ (2#16).toInt ≤ (inPh3 1 false 0).vhigh.toInt ∧ (inPh3 1 false 0).run ≠ 0
      ∧ (inPh3 1 false 0).startSeen = false := by decide

/-- The boundary values of `BITCNT`: 0 and 6. -/
theorem witness_PayloadSymbolIsShiftedIn :
    (inPh3 1 true 0).phase = .ph3 ∧ (2#16).toInt ≤ (inPh3 1 true 0).vhigh.toInt ∧ (inPh3 1 true 0).run ≠ 0
      ∧ (inPh3 1 true 0).startSeen = true ∧ (inPh3 1 true 0).bitcnt ≠ 7 ∧ (inPh3 1 true 6).bitcnt ≠ 7 := by decide

theorem witness_EighthSymbolEmitsTheByte :
    (inPh3 3 true 7).phase = .ph3 ∧ (1#16).toInt ≤ (inPh3 3 true 7).vhigh.toInt ∧ (inPh3 3 true 7).run ≠ 0
      ∧ (inPh3 3 true 7).startSeen = true ∧ (inPh3 3 true 7).bitcnt = 7 := by decide

theorem witness_ShortestLongRunIsCeilThreeFifths : (1 ≤ 5 ∧ 5 ∣ 5) ∧ (1 ≤ 7 ∧ ¬ 5 ∣ 7) := by decide

/-- 95_test_vectors.md V-C2: `LONG = CMAX div 3`. -/
theorem witness_SaturatedRunKeepsItsSymbol : 1431655765 ≤ (2 ^ 32 - 1) / 3 := by decide

theorem witness_SymbolsBecomeThePacket :
    Config.Legal 16 32 ∧ (inPh3 0 false 0).startSeen = false ∧ (inPh3 0 false 0).bitcnt = 0
      ∧ (inPh3 0 false 0).byteCount = 0 := by decide

/-- A reachable state of Phase 2 meets the invariants. -/
theorem inPh2_inv : Inv (inPh2 1).toRegs := by
  constructor <;> decide

/-- A reachable state of Phase 3 meets the invariants. -/
theorem inPh3_inv : Inv (inPh3 3 true 7).toRegs := by
  constructor <;> decide

theorem witness_PhaseFollowsTheTransitionTable :
    Inv (inPh2 1).toRegs ∧ (∃ t, exec .rst (inPh2 1) = .next t) ∧
      (∃ t, exec (.start 2#16 1#16 false false false) (inPh2 1) = .next t) ∧ (∃ t, exec .nop (inPh2 1) = .next t) ∧
      (∃ t, exec (.smp 0#16) (inPh2 1) = .next t) ∧ (∃ t, exec .endOp (inPh2 1) = .next t) ∧
      ∃ t, exec (.smpe 0#16) (inPh2 1) = .next t :=
  ⟨inPh2_inv, ⟨_, rfl⟩, ⟨_, rfl⟩, ⟨_, rfl⟩, ⟨_, rfl⟩, ⟨_, rfl⟩, ⟨_, rfl⟩⟩

theorem witness_NoErrorIsRaisedInPhase3 :
    (inPh3 2 true 3).phase = .ph3 ∧ ∃ t, exec (.smpe 0#16) (inPh3 2 true 3) = .next t := ⟨by decide, _, rfl⟩

theorem witness_OutputComesOnlyFromPhase3Samples :
    exec (.smpe 0#16) (inPh3 1 true 7) = .next (after (.smpe 0#16) (inPh3 1 true 7))
      ∧ (after (.smpe 0#16) (inPh3 1 true 7)).bValid = true
      ∧ (after (.smpe 0#16) (inPh3 1 true 7)).symValid = true := ⟨rfl, by decide, by decide⟩

theorem witness_OnlyStartAndRstLeaveErrAndDone : inErr.phase = .err ∧ { inErr with phase := .done }.phase = .done := by
  decide

theorem witness_RegistersOutsideTheWriteTableAreUnchanged :
    (∃ t, exec (.smp 3#16) (inPh2 15) = .next t) ∧ (2 : Fin 20) ∉ writes (.smp 3#16) (inPh2 15).phase :=
  ⟨⟨_, rfl⟩, by decide⟩

theorem witness_ConfigurationChangesOnlyInStartAndRst :
    listed.input = 0x08000000000003#55 :: [] ∧ (∃ t, step listed = .next t) ∧
      (0x08000000000003#55 : InVector).getLsbD 54 = false ∧ (0x08000000000003#55 : InVector).getLsbD 53 = false :=
  ⟨rfl, ⟨_, rfl⟩, by decide, by decide⟩

/-- A sample in Phase 3 with `VERB` 0 and 1; and a run of a sample and an end. -/
theorem witness_VerboseHasNoEffect :
    (Pins.ofSmp 0#16).rst = false ∧ (Pins.ofSmp 0#16).start = false ∧ (4#3 : BitVec 3) ≠ (inPh3 3 true 7).ctrl ∧
      (4#3 : BitVec 3).getLsbD 0 = (inPh3 3 true 7).ctrl.getLsbD 0 ∧
      (4#3 : BitVec 3).getLsbD 1 = (inPh3 3 true 7).ctrl.getLsbD 1 ∧
      ∀ p ∈ [Pins.ofSmp 0#16, Pins.ofEnd 16], p.rst = false ∧ p.start = false := by decide

theorem witness_EveryStepKeepsTheInvariants :
    ∃ t, Inv { inPh3 3 true 7 with input := [0x08000000000000#55] }.toRegs
      ∧ step { inPh3 3 true 7 with input := [0x08000000000000#55] } = .next t := ⟨_, inPh3_inv, rfl⟩

theorem witness_InvariantsHoldAtEveryWidth : Config.Legal 16 32 ∧ Inv (inPh3 3 true 7).toRegs := ⟨by decide, inPh3_inv⟩

theorem witness_StartAndRstEstablishTheInvariants :
    (Pins.ofRst 16).rst = true ∧ (Pins.ofStart 2#16 1#16 false false false).start = true := by decide

theorem witness_ErrorLeavesTheRecordOfItsSite :
    Config.Legal 16 32 ∧ Inv (inPh2 1).toRegs ∧ ErrRecord (inPh2 1).toRegs ∧ Ph1Record (inPh2 1).toRegs :=
  ⟨by decide, inPh2_inv, (by intro h; cases h), (by intro h; cases h)⟩

/-- The reference's `size` at the two sides of the bound, at `CW = 4`: 15 and 16 low samples. -/
theorem witness_FrameComputesTheReferenceFunction :
    Config.Legal 16 4 ∧ refSize (3 :: List.replicate 15 0) 2 1 ≤ 2 ^ 4 - 1
      ∧ 2 ^ 4 - 1 < refSize (3 :: List.replicate 16 0) 2 1 := by decide

/-- V-D8b: a frame that ends in `DONE` with `DIAG_SAT` 0. -/
theorem witness_DoneFrameShowsTheReferenceDiagnostics :
    Config.Legal 16 32 ∧
    (runPins (framePins 2#16 1#16 false false false (List.replicate 11 0#16 ++ [3#16])) (Regs.reset 16 32)).phase = .done ∧
    (runPins (framePins 2#16 1#16 false false false (List.replicate 11 0#16 ++ [3#16])) (Regs.reset 16 32)).diagSat
      = false := by decide

theorem witness_NothingBeforeStartMatters : (Pins.ofStart 2#16 1#16 false false false).start = true := by decide

theorem witness_BytesAreSixteenAcceptedSamplesApart :
    (clock (Pins.ofSmp 0#16) (inPh3 3 true 7).toRegs).bValid = true ∧
      acceptedCount [Pins.ofSmp 3#16] (clock (Pins.ofSmp 0#16) (inPh3 3 true 7).toRegs) < 16 := by decide

end Sys2Proof.Tests
end

section
/-! PROOFS. The statements of 10_state.md: the `PHASE` transition table (R23) and the output pins (R44). -/

namespace Sys2Proof.Machine

variable {sw cw : Nat}

/-! ## Codes of `PHASE` and `ERR_CODE` -/

/-- Different phases have different codes (10_state.md R22). -/
theorem phaseBits_inj {p q : Phase} : phaseBits p = phaseBits q ↔ p = q := by
  cases p <;> cases q <;> decide

/-- Different error codes have different values (10_state.md R25). -/
theorem errBits_inj {e f : ErrCode} : errBits e = errBits f ↔ e = f := by
  cases e <;> cases f <;> decide

theorem scanning_eq_true_iff (p : Phase) : scanning p = true ↔ p = .ph1 ∨ p = .ph2 ∨ p = .ph3 := by
  cases p <;> decide

/-- Settles O46: three pins compare `PHASE`, two are its code and that of `ERR_CODE`, and the codes are injective; every
other pin is a register as it stands. -/
theorem outputPinsShowTheRegisters : Obligations.OutputPinsShowTheRegisters := by
  intro sw cw r
  have hphase (p : Phase) : (outPins r).phase = phaseBits p ↔ r.phase = p := phaseBits_inj
  have herr (e : ErrCode) : (outPins r).errCode = errBits e ↔ r.errCode = e := errBits_inj
  exact ⟨scanning_eq_true_iff r.phase, decide_eq_true_iff, decide_eq_true_iff,
    hphase .idle, hphase .ph1, hphase .ph2, hphase .ph3, hphase .done, hphase .err,
    herr .none, herr .calibration, herr .input, herr .range,
    rfl, rfl, rfl, rfl, rfl, rfl, rfl, rfl, rfl, rfl, rfl, rfl, rfl, rfl, rfl, rfl⟩

/-! ## What each sub-operation does to `PHASE` and `ERR_CODE` -/

/-- A symbol that enters the reassembler changes neither `PHASE` nor `ERR_CODE` (43_frame_reassembler.md R160). -/
theorem pushSymbol_phase_errCode (b : Bool) (r : Regs sw cw) :
    (pushSymbol b r).phase = r.phase ∧ (pushSymbol b r).errCode = r.errCode := by
  rcases pushSymbol_cases b r with ⟨_, e⟩ | ⟨_, _, e⟩ | ⟨_, _, e⟩ <;> simp [e]

/-- A sample in Phase 3 raises nothing and stays in Phase 3 (42_pulse_classifier.md R140, R141). -/
theorem smpPh3_phase_errCode (v : Int) (r : Regs sw cw) :
    (smpPh3 v r).phase = r.phase ∧ (smpPh3 v r).errCode = r.errCode := by
  rcases smpPh3_cases v r with ⟨_, e⟩ | ⟨_, _, e⟩ | ⟨_, _, e⟩
  · simp [e]
  · simp [e]
  · rw [e]
    exact pushSymbol_phase_errCode _ (emitSym _ r)

/-- The stop sample of Phase 2 enters Phase 3 or raises CalibrationError (41_preamble_detector.md R124, R126). -/
theorem stopPh2_phase_errCode (r : Regs sw cw) :
    (11 ≤ r.preSize.toNat ∧ (stopPh2 r).phase = .ph3 ∧ (stopPh2 r).errCode = r.errCode) ∨
    (r.preSize.toNat < 11 ∧ (stopPh2 r).phase = .err ∧ (stopPh2 r).errCode = .calibration) := by
  obtain ⟨_, _, _, _, _, _, ⟨hsize, e⟩ | ⟨hsize, e⟩⟩ := stopPh2_cases r
  · exact .inl ⟨hsize, by simp [e]⟩
  · exact .inr ⟨hsize, by simp [e]⟩

/-! ## The rows of the transition table -/

/-- The default clear does not change which row of the table a sample takes. -/
theorem SmpTransition.of_clearStrobes {v : Int} {r : Regs sw cw} {p : Phase} {e : ErrCode}
    (h : SmpTransition v (clearStrobes r) p e) : SmpTransition v r p e := by
  cases h with
  | ph1_high hp hv => exact .ph1_high hp hv
  | ph1_low hp hv hl => exact .ph1_low hp hv hl
  | ph1_between hp hv hl => exact .ph1_between hp hv hl
  | ph2_low hp hl hs => exact .ph2_low hp hl hs
  | ph2_overflow hp hl hs => exact .ph2_overflow hp hl hs
  | ph2_stop hp hl hs => exact .ph2_stop hp hl hs
  | ph2_short hp hl hs => exact .ph2_short hp hl hs
  | ph3 hp => exact .ph3 hp
  | ignored hp => exact .ignored hp

/-- The default clear does not change which row of the table an end of capture takes. -/
theorem EndTransition.of_clearStrobes {r : Regs sw cw} {p : Phase} {e : ErrCode}
    (h : EndTransition (clearStrobes r) p e) : EndTransition r p e := by
  cases h with
  | ph1_empty hp hs => exact .ph1_empty hp hs
  | ph1_high hp hs => exact .ph1_high hp hs
  | ph2 hp => exact .ph2 hp
  | ph3 hp => exact .ph3 hp
  | ignored hp => exact .ignored hp

/-- A sample in Phase 2 takes a Phase 2 row (10_state.md R23). -/
theorem smpPh2_transition (v : Int) (r : Regs sw cw) (hp : r.phase = .ph2) :
    SmpTransition v r (smpPh2 v r).phase (smpPh2 v r).errCode := by
  rcases smpPh2_cases v r with ⟨hv, hs, e⟩ | ⟨hv, hs, e⟩ | ⟨hv, e⟩
  · rw [e]
    exact .ph2_overflow hp hv ((eq_cmax_iff _).1 hs)
  · have hlt : r.preSize.toNat < 2 ^ cw - 1 := by
      have hne := mt (eq_cmax_iff r.preSize).2 hs
      have hle := r.preSize.isLt
      omega
    have hrow : SmpTransition v r .ph2 r.errCode := .ph2_low hp hv hlt
    rw [e]
    exact hp ▸ hrow
  · rw [e]
    rcases stopPh2_phase_errCode r with ⟨hs, h1, h2⟩ | ⟨hs, h1, h2⟩
    · rw [h1, h2]
      exact .ph2_stop hp hv hs
    · rw [h1, h2]
      exact .ph2_short hp hv hs

/-- The row of the sample that ends Phase 1 and is given to Phase 2 (10_state.md R23): with `PRE_SIZE` 0 it cannot overflow
`PRE_SIZE`, and as a stop sample it finds too few low samples. -/
theorem SmpTransition.of_setPhase_ph2 {v : Int} {r : Regs sw cw} {p : Phase} {e : ErrCode} (hcw : 0 < cw)
    (hp : r.phase = .ph1) (hs : r.preSize = 0) (hv : v < r.vhigh.toInt)
    (h : SmpTransition v (setPhase .ph2 r) p e) : SmpTransition v r p e := by
  have hzero : (setPhase .ph2 r).preSize.toNat = 0 := by simp [hs]
  cases h with
  | ph1_high h2 | ph1_low h2 | ph1_between h2 | ph3 h2 | ignored h2 => cases h2
  | ph2_low _ hl => exact .ph1_low hp hv hl
  | ph2_overflow _ _ hmax =>
    have := Nat.one_lt_two_pow hcw.ne'
    omega
  | ph2_stop _ _ hmin => omega
  | ph2_short _ hl => exact .ph1_between hp hv hl

/-- A sample in Phase 1 takes a Phase 1 row (10_state.md R23). -/
theorem smpPh1_transition (v : Int) (r : Regs sw cw) (hcw : 0 < cw) (hp : r.phase = .ph1) (hs : r.preSize = 0) :
    SmpTransition v r (smpPh1 v r).phase (smpPh1 v r).errCode := by
  rcases smpPh1_cases v r with ⟨hv, e⟩ | ⟨hv, e⟩
  · rw [e, satIncPreStart_phase, satIncPreStart_errCode, hp]
    exact .ph1_high hp hv
  · rw [e]
    exact (smpPh2_transition v (setPhase .ph2 r) rfl).of_setPhase_ph2 hcw hp hs hv

/-- Every sample takes a row of the table, wherever `PRE_SIZE` is 0 in Phase 1 (10_state.md R23). -/
theorem smp_transition (v : Int) (r : Regs sw cw) (hcw : 0 < cw) (hs : r.phase = .ph1 → r.preSize = 0) :
    SmpTransition v r (smp v r).phase (smp v r).errCode := by
  rcases smp_cases v r with ⟨hp, e⟩ | ⟨hp, e⟩ | ⟨hp, e⟩ | ⟨hp, e⟩ <;> rw [e]
  · exact smpPh1_transition v r hcw hp (hs hp)
  · exact smpPh2_transition v r hp
  · obtain ⟨hphase, herr⟩ := smpPh3_phase_errCode v r
    rw [hphase, herr, hp]
    exact .ph3 hp
  · exact .ignored hp

/-- Every end of capture takes a row of the table, from any registers (10_state.md R23). -/
theorem endCapture_transition (r : Regs sw cw) : EndTransition r (endCapture r).phase (endCapture r).errCode := by
  rcases endCapture_cases r with ⟨hp, hs, e⟩ | ⟨hp, hs, e⟩ | ⟨hp, e⟩ | ⟨hp, e⟩ | ⟨hp, e⟩ <;> rw [e]
  · exact .ph1_empty hp hs
  · exact .ph1_high hp hs
  · exact .ph2 hp
  · exact .ph3 hp
  · exact .ignored hp

/-- The sample of a step, after its default clear, from registers that meet the invariants. -/
theorem Inv.smp_transition {r : Regs sw cw} (hinv : Inv r) (hcw : 0 < cw) (v : Int) :
    SmpTransition v r (smp v (clearStrobes r)).phase (smp v (clearStrobes r)).errCode :=
  .of_clearStrobes (Machine.smp_transition v (clearStrobes r) hcw fun hp => (hinv.idle_ph1 (.inr hp)).1)

/-- Settles O39: `Inv` puts `PRE_SIZE` to 0 in Phase 1, which is all that the rows of a sample need; the rows of an end of
capture hold from any registers, so also from those that the sample half of `SMPE` leaves. -/
theorem phaseFollowsTheTransitionTable : Obligations.PhaseFollowsTheTransitionTable := by
  intro s t hinv
  have hsmp (d : BitVec 16) := hinv.smp_transition (by decide) d.toInt
  simp only [exec_next_iff]
  refine ⟨?rst, ?start, ?nop, ?smp, ?endOp, ?smpe⟩
  case rst => rintro rfl; exact ⟨rfl, rfl⟩
  case start => rintro vh vl rev inv verb rfl; exact ⟨rfl, rfl⟩
  case nop => rintro rfl; exact ⟨rfl, rfl⟩
  case smp => rintro d rfl; exact hsmp d
  case endOp => rintro rfl; exact (endCapture_transition (clearStrobes s.toRegs)).of_clearStrobes
  case smpe => rintro d rfl; exact ⟨_, rfl, hsmp d, endCapture_transition _⟩

end Sys2Proof.Machine
end

section
/-! PROOFS. The statements of 30_encoding.md: the operation that the control pins select (R81) and the sub-operation that
`PHASE` selects (R82). -/

namespace Sys2Proof

/-! ## The operation of each row of R81, in the order of its priority -/

variable {p : Pins Config.sw}

theorem Pins.operation_of_rst (hrst : p.rst = true) : p.operation = .rst := by simp [Pins.operation, hrst]

theorem Pins.operation_of_start (hrst : p.rst = false) (hstart : p.start = true) :
    p.operation = .start p.cfgVhigh p.cfgVlow p.cfgReverse p.cfgInvert p.cfgVerbose := by
  simp [Pins.operation, hrst, hstart]

theorem Pins.operation_of_sEnd_sValid (hrst : p.rst = false) (hstart : p.start = false) (hend : p.sEnd = true)
    (hvalid : p.sValid = true) : p.operation = .smpe p.sData := by
  simp [Pins.operation, hrst, hstart, hend, hvalid]

theorem Pins.operation_of_sEnd (hrst : p.rst = false) (hstart : p.start = false) (hend : p.sEnd = true)
    (hvalid : p.sValid = false) : p.operation = .endOp := by
  simp [Pins.operation, hrst, hstart, hend, hvalid]

theorem Pins.operation_of_sValid (hrst : p.rst = false) (hstart : p.start = false) (hend : p.sEnd = false)
    (hvalid : p.sValid = true) : p.operation = .smp p.sData := by
  simp [Pins.operation, hrst, hstart, hend, hvalid]

theorem Pins.operation_of_none (hrst : p.rst = false) (hstart : p.start = false) (hend : p.sEnd = false)
    (hvalid : p.sValid = false) : p.operation = .nop := by
  simp [Pins.operation, hrst, hstart, hend, hvalid]

/-- Settles O2: at `SW = 16` the bits named are, by definition, the pins of `Pins.ofVector v` (R80), and each row of R81 is
one of the lemmas above on those pins. -/
theorem decodeFollowsControlPinPriority : Obligations.DecodeFollowsControlPinPriority := by
  intro v
  exact ⟨Pins.operation_of_rst (p := .ofVector v), Pins.operation_of_start (p := .ofVector v),
    Pins.operation_of_sEnd_sValid (p := .ofVector v), Pins.operation_of_sEnd (p := .ofVector v),
    Pins.operation_of_sValid (p := .ofVector v), Pins.operation_of_none (p := .ofVector v)⟩

end Sys2Proof

namespace Sys2Proof.Machine

variable {sw cw : Nat}

/-! ## The end of capture in each phase (40_control_ops.md R111, R107) -/

theorem endCapture_of_ph1 (r : Regs sw cw) (h : r.phase = .ph1) : endCapture r = endPh1 r := by
  simp only [endCapture, h]

theorem endCapture_of_ph2 (r : Regs sw cw) (h : r.phase = .ph2) : endCapture r = endPh2 r := by
  simp only [endCapture, h]

theorem endCapture_of_ph3 (r : Regs sw cw) (h : r.phase = .ph3) : endCapture r = endPh3 r := by
  simp only [endCapture, h]

theorem endCapture_of_not_scanning (r : Regs sw cw) (h : scanning r.phase = false) : endCapture r = r := by
  cases hp : r.phase <;> simp_all [endCapture, scanning]

/-! ## The sub-operation of the present phase (30_encoding.md R82) -/

/-- In a phase its `when` allows, a sub-operation is its own meaning (R91). -/
theorem whenPhase_of_allowed {allowed : Phase → Bool} (own dispatched : Regs sw cw → Regs sw cw) {r : Regs sw cw}
    (h : allowed r.phase = true) : whenPhase allowed own dispatched r = own r := if_pos h

section Rows

variable (d : BitVec Config.sw) {r : Regs Config.sw Config.cw}

theorem effect_smpPh1 (h : r.phase = .ph1) : effect (.smpPh1 d) r = smpPh1 (sampleOf d) r := by
  simp [effect, whenPhase_of_allowed, h]

theorem effect_smpPh2 (h : r.phase = .ph2) : effect (.smpPh2 d) r = smpPh2 (sampleOf d) r := by
  simp [effect, whenPhase_of_allowed, h]

theorem effect_smpPh3 (h : r.phase = .ph3) : effect (.smpPh3 d) r = smpPh3 (sampleOf d) r := by
  simp [effect, whenPhase_of_allowed, h]

theorem effect_smpX (h : scanning r.phase = false) : effect (.smpX d) r = r := by
  simp [effect, whenPhase_of_allowed, h]

theorem effect_endPh1 (h : r.phase = .ph1) : effect .endPh1 r = endPh1 r := by
  simp [effect, whenPhase_of_allowed, h]

theorem effect_endPh2 (h : r.phase = .ph2) : effect .endPh2 r = endPh2 r := by
  simp [effect, whenPhase_of_allowed, h]

theorem effect_endPh3 (h : r.phase = .ph3) : effect .endPh3 r = endPh3 r := by
  simp [effect, whenPhase_of_allowed, h]

theorem effect_endX (h : scanning r.phase = false) : effect .endX r = r := by
  simp [effect, whenPhase_of_allowed, h]

end Rows

/-- `SMP` does what its row of R82 for the present phase does. -/
theorem effect_subOperation_smp (d : BitVec Config.sw) (r : Regs Config.sw Config.cw) :
    effect (subOperation r.phase (.smp d)) r = smp (sampleOf d) r := by
  have ignored (hs : scanning r.phase = false) : effect (.smpX d) r = smp (sampleOf d) r :=
    (effect_smpX d hs).trans (smp_of_not_scanning _ r hs).symm
  cases hp : r.phase with
  | ph1 => exact (effect_smpPh1 d hp).trans (smp_of_ph1 _ r hp).symm
  | ph2 => exact (effect_smpPh2 d hp).trans (smp_of_ph2 _ r hp).symm
  | ph3 => exact (effect_smpPh3 d hp).trans (smp_of_ph3 _ r hp).symm
  | idle => exact ignored (by rw [hp]; rfl)
  | done => exact ignored (by rw [hp]; rfl)
  | err => exact ignored (by rw [hp]; rfl)

/-- `END` does what its row of R82 for the present phase does. -/
theorem effect_subOperation_endOp (r : Regs Config.sw Config.cw) :
    effect (subOperation r.phase .endOp) r = endCapture r := by
  have ignored (hs : scanning r.phase = false) : effect .endX r = endCapture r :=
    (effect_endX hs).trans (endCapture_of_not_scanning r hs).symm
  cases hp : r.phase with
  | ph1 => exact (effect_endPh1 hp).trans (endCapture_of_ph1 r hp).symm
  | ph2 => exact (effect_endPh2 hp).trans (endCapture_of_ph2 r hp).symm
  | ph3 => exact (effect_endPh3 hp).trans (endCapture_of_ph3 r hp).symm
  | idle => exact ignored (by rw [hp]; rfl)
  | done => exact ignored (by rw [hp]; rfl)
  | err => exact ignored (by rw [hp]; rfl)

/-- Instructions with the same effect on the cleared registers have the same outcome. -/
theorem exec_congr {i j : Instr} {s : State}
    (h : effect i (clearStrobes s.toRegs) = effect j (clearStrobes s.toRegs)) : exec i s = exec j s := by
  rw [exec_eq_operate, exec_eq_operate, operate, operate, h]

/-- Every operation has the effect of its sub-operation in the present phase (R82). -/
theorem effect_subOperation (i : Instr) (r : Regs Config.sw Config.cw) :
    effect (subOperation r.phase i) r = effect i r := by
  cases i with
  | smp d => exact effect_subOperation_smp d r
  | endOp => exact effect_subOperation_endOp r
  | _ => rfl

/-- The phase that selects is that of the state before the step: the default clear does not change it. -/
theorem exec_eq_subOperation (i : Instr) {s : State} {ph : Phase} (h : s.phase = ph) :
    exec i s = exec (subOperation ph i) s := by
  subst h
  exact exec_congr (effect_subOperation i (clearStrobes s.toRegs)).symm

/-- Settles O17: the rows named in each clause are `subOperation` of the clause's phase. -/
theorem phaseSelectsTheSubOperation : Obligations.PhaseSelectsTheSubOperation := by
  intro s d
  have both {ph : Phase} (h : s.phase = ph) :
      exec (.smp d) s = exec (subOperation ph (.smp d)) s ∧ exec .endOp s = exec (subOperation ph .endOp) s :=
    ⟨exec_eq_subOperation _ h, exec_eq_subOperation _ h⟩
  refine ⟨both, both, both, ?ignored⟩
  case ignored =>
    rintro (hidle | hdone | herr)
    · exact both hidle
    · exact both hdone
    · exact both herr

end Sys2Proof.Machine
end

section
/-! PROOFS. The statements of 40_control_ops.md: the operations and the end of capture in each phase (R100 to R108). -/

namespace Sys2Proof.Machine

variable {sw cw : Nat}

/-! ## The words of a row (30_encoding.md R82, R91) -/

/-- A sub-operation of one phase that agrees there with the dispatch is the dispatch in every phase. -/
theorem whenPhase_of_phase {q : Phase} {own dispatched : Regs sw cw → Regs sw cw} {r : Regs sw cw}
    (h : r.phase = q → dispatched r = own r) : whenPhase (fun p => decide (p = q)) own dispatched r = dispatched r :=
  whenPhase_eq_dispatched _ _ _ _ fun hq => (h (of_decide_eq_true hq)).symm

/-- A row that ignores its word outside a frame, as the dispatch does, is the dispatch in every phase. -/
theorem whenPhase_of_not_scanning {dispatched : Regs sw cw → Regs sw cw} {r : Regs sw cw}
    (h : scanning r.phase = false → dispatched r = r) :
    whenPhase (fun p => !scanning p) (fun r => r) dispatched r = dispatched r :=
  whenPhase_eq_dispatched _ _ _ _ fun hs => (h (by simpa using hs)).symm

/-- In every phase a sub-operation has the effect of `SMP` or `END`, whose words it has (log entry 6). -/
theorem effect_eq_operation (i : Instr) (r : Regs Config.sw Config.cw) : effect i r = effect i.operation r := by
  cases i with
  | smpPh1 d => exact whenPhase_of_phase (smp_of_ph1 _ r)
  | smpPh2 d => exact whenPhase_of_phase (smp_of_ph2 _ r)
  | smpPh3 d => exact whenPhase_of_phase (smp_of_ph3 _ r)
  | smpX d => exact whenPhase_of_not_scanning (smp_of_not_scanning _ r)
  | endPh1 => exact whenPhase_of_phase (endCapture_of_ph1 r)
  | endPh2 => exact whenPhase_of_phase (endCapture_of_ph2 r)
  | endPh3 => exact whenPhase_of_phase (endCapture_of_ph3 r)
  | endX => exact whenPhase_of_not_scanning (endCapture_of_not_scanning r)
  | _ => rfl

/-! ## `END` and the strobes (40_control_ops.md R104 to R107, R111) -/

/-- The capture ends before any sample was accepted (R104). -/
theorem endPh1_of_no_sample (r : Regs sw cw) (h : r.preStart = 0) : endPh1 r = raise .inputError r := if_pos h

/-- The capture ends after leading high samples only (R104). -/
theorem endPh1_of_samples (r : Regs sw cw) (h : r.preStart ≠ 0) : endPh1 r = raise .calibrationError r := if_neg h

/-- The registers with the two strobes put to `b` and `c`; the default clear is the case of two zeros. -/
def setStrobes (b c : Bool) (r : Regs sw cw) : Regs sw cw := { r with bValid := b, symValid := c }

theorem clearStrobes_eq_setStrobes (r : Regs sw cw) : clearStrobes r = setStrobes false false r := rfl

theorem setStrobes_self (r : Regs sw cw) : setStrobes r.bValid r.symValid r = r := rfl

/-- The end of a capture neither reads nor writes the strobes. -/
theorem endCapture_setStrobes (b c : Bool) (r : Regs sw cw) :
    endCapture (setStrobes b c r) = setStrobes b c (endCapture r) := by
  rcases endCapture_cases r with ⟨hp, hs, e⟩ | ⟨hp, hs, e⟩ | ⟨hp, e⟩ | ⟨hp, e⟩ | ⟨hp, e⟩ <;> rw [e]
  · exact (endCapture_of_ph1 (setStrobes b c r) hp).trans (endPh1_of_no_sample (setStrobes b c r) hs)
  · exact (endCapture_of_ph1 (setStrobes b c r) hp).trans (endPh1_of_samples (setStrobes b c r) hs)
  · exact endCapture_of_ph2 (setStrobes b c r) hp
  · exact endCapture_of_ph3 (setStrobes b c r) hp
  · exact endCapture_of_not_scanning (setStrobes b c r) hp

/-- `END` and its rows end the capture, then leave both strobes 0. -/
theorem exec_of_operation_endOp {i : Instr} (h : i.operation = .endOp) (s : State) :
    exec i s = .next { s with toRegs := clearStrobes (endCapture s.toRegs) } := by
  rw [exec_next_iff, effect_eq_operation, h, effect, clearStrobes_eq_setStrobes, clearStrobes_eq_setStrobes,
    endCapture_setStrobes]

/-- `SMP` and its rows clear the strobes, then take the sample. -/
theorem exec_of_operation_smp {i : Instr} {d : BitVec Config.sw} (h : i.operation = .smp d) (s : State) :
    exec i s = .next { s with toRegs := smp (sampleOf d) (clearStrobes s.toRegs) } := by
  rw [exec_next_iff, effect_eq_operation, h]
  rfl

/-- `SMPE` clears the strobes once, takes the sample and ends the capture (40_control_ops.md R108). -/
theorem exec_smpe (d : BitVec Config.sw) (s : State) :
    exec (.smpe d) s = .next { s with toRegs := endCapture (smp (sampleOf d) (clearStrobes s.toRegs)) } := rfl

/-- Settles O22: the `END` half reads no strobe, so it does the same on those of the `SMP` half as on cleared ones;
after an error it does nothing. -/
theorem smpeIsSmpThenEndInOneStep : Obligations.SmpeIsSmpThenEndInOneStep := by
  intro d s
  refine ⟨_, _, exec_of_operation_smp rfl s, exec_of_operation_endOp rfl _, ?strobes, ?raised⟩
  case strobes =>
    rw [exec_smpe, ← setStrobes_self (smp (sampleOf d) (clearStrobes s.toRegs)), endCapture_setStrobes]
    rfl
  case raised =>
    intro herr
    rw [exec_smpe, endCapture_of_not_scanning _ (congrArg scanning herr)]

/-! ## `RST` (40_control_ops.md R100) -/

/-- The numbered view of the registers after `RST` (10_state.md R20, R45). -/
theorem Regs.reset_x (k : Fin 20) : (Regs.reset sw cw).x k = 0 := by
  unfold Regs.x
  split <;> simp [phaseBits, errBits]

/-- Settles O13: whatever the state, its registers become `Regs.reset`, and `rst` is the first row of R81. -/
theorem rstClearsAllTwentyRegisters : Obligations.RstClearsAllTwentyRegisters := by
  have hrst (s t : State) (h : exec .rst s = .next t) : t.toRegs = Regs.reset _ _ := by
    rw [(exec_next_iff .rst s t).1 h]
    rfl
  refine ⟨fun s => rfl, ?registers, ?pins, fun v => Pins.operation_of_rst (p := .ofVector v)⟩
  case registers =>
    intro s k t h
    rw [hrst s t h, Regs.reset_x]
  case pins =>
    intro s t h
    rw [hrst s t h]
    exact ⟨rfl, rfl, rfl⟩

/-! ## `START` and the configuration (40_control_ops.md R101) -/

/-- `CTRL` holds the three flags at the bits of 10_state.md R27. -/
theorem ctrlOf_getLsbD (rev inv verb : Bool) :
    (ctrlOf rev inv verb).getLsbD 0 = rev ∧ (ctrlOf rev inv verb).getLsbD 1 = inv ∧
      (ctrlOf rev inv verb).getLsbD 2 = verb := by
  revert rev inv verb
  decide

/-- The latched configuration (10_state.md R26, R27). -/
def Regs.config (r : Regs sw cw) : BitVec sw × BitVec sw × BitVec 3 := (r.vhigh, r.vlow, r.ctrl)

theorem config_stopPh2 (r : Regs sw cw) : (stopPh2 r).config = r.config := by
  obtain ⟨_, _, _, _, _, _, ⟨_, e⟩ | ⟨_, e⟩⟩ := stopPh2_cases r <;> rw [e] <;> rfl

theorem config_smpPh2 (v : Int) (r : Regs sw cw) : (smpPh2 v r).config = r.config := by
  rcases smpPh2_cases v r with ⟨_, _, e⟩ | ⟨_, _, e⟩ | ⟨_, e⟩ <;> rw [e]
  · rfl
  · rfl
  · exact config_stopPh2 r

theorem config_smpPh1 (v : Int) (r : Regs sw cw) : (smpPh1 v r).config = r.config := by
  rcases smpPh1_cases v r with ⟨_, e⟩ | ⟨_, e⟩ <;> rw [e]
  · rfl
  · exact config_smpPh2 v (setPhase .ph2 r)

theorem config_pushSymbol (b : Bool) (r : Regs sw cw) : (pushSymbol b r).config = r.config := by
  rcases pushSymbol_cases b r with ⟨_, e⟩ | ⟨_, _, e⟩ | ⟨_, _, e⟩ <;> rw [e] <;> rfl

theorem config_smpPh3 (v : Int) (r : Regs sw cw) : (smpPh3 v r).config = r.config := by
  rcases smpPh3_cases v r with ⟨_, e⟩ | ⟨_, _, e⟩ | ⟨_, _, e⟩ <;> rw [e]
  · rfl
  · exact config_pushSymbol _ (emitSym _ r)

/-- No sample changes the configuration. -/
theorem config_smp (v : Int) (r : Regs sw cw) : (smp v r).config = r.config := by
  rcases smp_cases v r with ⟨_, e⟩ | ⟨_, e⟩ | ⟨_, e⟩ | ⟨_, e⟩ <;> rw [e]
  · exact config_smpPh1 v r
  · exact config_smpPh2 v r
  · exact config_smpPh3 v r

/-- No end of capture changes the configuration. -/
theorem config_endCapture (r : Regs sw cw) : (endCapture r).config = r.config := by
  rcases endCapture_cases r with ⟨_, _, e⟩ | ⟨_, _, e⟩ | ⟨_, e⟩ | ⟨_, e⟩ | ⟨_, e⟩ <;> rw [e] <;> rfl

/-- The configuration stays latched until the next `START` or `RST` (40_control_ops.md R101). -/
theorem config_effect {i : Instr} (hrst : i ≠ .rst) (hstart : ∀ vh vl rev inv verb, i ≠ .start vh vl rev inv verb)
    (r : Regs Config.sw Config.cw) : (effect i r).config = r.config := by
  rw [effect_eq_operation]
  cases i with
  | rst => exact absurd rfl hrst
  | start vh vl rev inv verb => exact absurd rfl (hstart vh vl rev inv verb)
  | nop => rfl
  | smpe d => exact (config_endCapture _).trans (config_smp _ r)
  | smp d | smpPh1 d | smpPh2 d | smpPh3 d | smpX d => exact config_smp _ r
  | endOp | endPh1 | endPh2 | endPh3 | endX => exact config_endCapture r

/-- Settles O14: `CTRL` is `ctrlOf` of the three flags, and `s_valid` and `s_end` do not occur in the row of `START`. -/
theorem startLatchesConfigurationAndClears : Obligations.StartLatchesConfigurationAndClears := by
  refine ⟨?latches, fun v => Pins.operation_of_start (p := .ofVector v), ?keeps⟩
  case latches =>
    intro vh vl rev inv verb s
    obtain ⟨hrev, hinv, hverb⟩ := ctrlOf_getLsbD rev inv verb
    exact ⟨ctrlOf rev inv verb, hrev, hinv, hverb, rfl⟩
  case keeps =>
    intro i s t h hrst hstart
    rw [(exec_next_iff i s t).1 h]
    have hconfig := config_effect hrst hstart (clearStrobes s.toRegs)
    simpa [Regs.config] using hconfig

/-! ## `NOP` (40_control_ops.md R102) -/

theorem clock_nop (r : Regs sw cw) : clock (Pins.nop sw) r = clearStrobes r := rfl

/-- A step does not see the strobes that the step before it left (10_state.md R43). -/
theorem clock_clearStrobes (p : Pins sw) (r : Regs sw cw) : clock p (clearStrobes r) = clock p r := by
  rw [clock, clearStrobes_idem, clock]

theorem runPins_nop_cons (ps : List (Pins sw)) (r : Regs sw cw) :
    runPins (Pins.nop sw :: ps) r = runPins ps (clearStrobes r) := rfl

theorem symbolsOf_nop_cons (ps : List (Pins sw)) (r : Regs sw cw) :
    symbolsOf (Pins.nop sw :: ps) r = symbolsOf ps (clearStrobes r) := by
  simp [symbolsOf, clock_nop]

theorem bytesOf_nop_cons (ps : List (Pins sw)) (r : Regs sw cw) :
    bytesOf (Pins.nop sw :: ps) r = bytesOf ps (clearStrobes r) := by
  simp [bytesOf, clock_nop]

/-- Settles O15: a `NOP` emits nothing and leaves the cleared registers, from which the next step does what it would
have done without it. -/
theorem nopOnlyClearsTheStrobes : Obligations.NopOnlyClearsTheStrobes := by
  refine ⟨fun s => rfl, fun sw cw p ps r => ⟨?registers, ?symbols, ?bytes⟩⟩
  case registers => rw [runPins_nop_cons, runPins, clock_clearStrobes, runPins]
  case symbols => rw [symbolsOf_nop_cons, symbolsOf, clock_clearStrobes, symbolsOf]
  case bytes => rw [bytesOf_nop_cons, bytesOf, clock_clearStrobes, bytesOf]

/-! ## Outside a frame (40_control_ops.md R103, R107) -/

theorem scanning_eq_false_iff (p : Phase) : scanning p = false ↔ p = .idle ∨ p = .done ∨ p = .err := by
  cases p <;> decide

/-- Settles O16: outside a frame `smp` and `end` leave the registers as they are, so only the default clear remains. -/
theorem samplesAndEndsAreIgnoredOutsideAFrame : Obligations.SamplesAndEndsAreIgnoredOutsideAFrame := by
  intro s d hphase
  have hs : scanning s.phase = false := (scanning_eq_false_iff _).2 hphase
  have hsmp : smp (sampleOf d) (clearStrobes s.toRegs) = clearStrobes s.toRegs := smp_of_not_scanning _ _ hs
  have hend : endCapture s.toRegs = s.toRegs := endCapture_of_not_scanning _ hs
  rw [exec_of_operation_smp (i := .smp d) rfl, exec_of_operation_smp (i := .smpX d) rfl,
    exec_of_operation_endOp (i := .endOp) rfl, exec_of_operation_endOp (i := .endX) rfl, exec_smpe,
    hsmp, hend, endCapture_of_not_scanning (clearStrobes s.toRegs) hs]
  exact ⟨hs, rfl, rfl, rfl, rfl, rfl⟩

/-! ## The end of capture in a frame (40_control_ops.md R104 to R106) -/

/-- Settles O19: `END.PH1` has the words of `END`, which in `PH1` asks `PRE_START` alone. -/
theorem endInPhase1RaisesInputOrCalibrationError : Obligations.EndInPhase1RaisesInputOrCalibrationError := by
  intro i s hi hp
  have hop : i.operation = .endOp := by rcases hi with rfl | rfl <;> rfl
  rw [exec_of_operation_endOp hop, endCapture_of_ph1 _ hp]
  constructor
  · intro h0
    rw [endPh1_of_no_sample _ h0]
    rfl
  · intro h0
    rw [endPh1_of_samples _ h0]
    rfl

/-- Settles O20: in `PH2` the end of capture raises without reading `PRE_SIZE`. -/
theorem endInPhase2RaisesCalibrationError : Obligations.EndInPhase2RaisesCalibrationError := by
  intro i s hi hp
  have hop : i.operation = .endOp := by rcases hi with rfl | rfl <;> rfl
  rw [exec_of_operation_endOp hop, endCapture_of_ph2 _ hp]
  rfl

/-- Settles O21: the `SMP` half of `SMPE` stays in `PH3`, so its `END` half completes the frame as `END` does. -/
theorem endInPhase3CompletesTheFrame : Obligations.EndInPhase3CompletesTheFrame := by
  intro s hp
  refine ⟨?alone, ?merged⟩
  case alone =>
    intro i hi
    have hop : i.operation = .endOp := by rcases hi with rfl | rfl <;> rfl
    rw [exec_of_operation_endOp hop, endCapture_of_ph3 _ hp]
    rfl
  case merged =>
    intro d
    refine ⟨_, exec_of_operation_smp rfl s, ?_⟩
    have hsmp := smp_of_ph3 (sampleOf d) (clearStrobes s.toRegs) hp
    obtain ⟨hphase, _⟩ := smpPh3_phase_errCode (sampleOf d) (clearStrobes s.toRegs)
    rw [exec_smpe, hsmp, endCapture_of_ph3 _ (hphase.trans hp)]
    rfl

end Sys2Proof.Machine
end

section
/-! PROOFS. The statements of 41_preamble_detector.md: the samples of Phase 1 and Phase 2 (R120 to R126). -/

namespace Sys2Proof.Machine

variable {sw cw : Nat}

/-! ## A sample of Phase 1 (41_preamble_detector.md R120, R121) -/

/-- A sample at or above `VHIGH` is counted (R120). -/
theorem smpPh1_of_high {v : Int} {r : Regs sw cw} (h : r.vhigh.toInt ≤ v) : smpPh1 v r = satIncPreStart r := by
  rcases smpPh1_cases v r with ⟨_, e⟩ | ⟨hlow, _⟩
  · exact e
  · omega

/-- The first sample below `VHIGH` is given to the rule of Phase 2 (R121). -/
theorem smpPh1_of_stop {v : Int} {r : Regs sw cw} (h : v < r.vhigh.toInt) :
    smpPh1 v r = smpPh2 v (setPhase .ph2 r) := by
  rcases smpPh1_cases v r with ⟨hhigh, _⟩ | ⟨_, e⟩
  · omega
  · exact e

/-- Below `CMAX` the count of leading high samples goes up and no flag is touched (10_state.md R29, R40). -/
theorem satIncPreStart_of_ne_cmax {r : Regs sw cw} (h : r.preStart ≠ cmax cw) :
    satIncPreStart r = { r with preStart := r.preStart + 1 } := by
  simp [satIncPreStart, satInc, satFlag, h]

/-- At `CMAX` the count of leading high samples stays and the flag says so (10_state.md R37, R40). -/
theorem satIncPreStart_of_eq_cmax {r : Regs sw cw} (h : r.preStart = cmax cw) :
    satIncPreStart r = { r with diagSat := true } := by
  simp [satIncPreStart, satInc, satFlag, ← h]

/-! ## A sample of Phase 2 (41_preamble_detector.md R122 to R126) -/

/-- A sample at or below `VLOW` is counted (R122). -/
theorem smpPh2_of_low {v : Int} {r : Regs sw cw} (h : v ≤ r.vlow.toInt) (hsize : r.preSize ≠ cmax cw) :
    smpPh2 v r = { r with preSize := r.preSize + 1 } := by
  rcases smpPh2_cases v r with ⟨_, hmax, _⟩ | ⟨_, _, e⟩ | ⟨hstop, _⟩
  · exact absurd hmax hsize
  · exact e
  · omega

/-- The first low sample of a frame; a counter of no bit would have no room for it (R122). -/
theorem smpPh2_of_first_low {v : Int} {r : Regs sw cw} (hcw : 0 < cw) (h : v ≤ r.vlow.toInt) (hsize : r.preSize = 0) :
    smpPh2 v r = { r with preSize := 1 } := by
  have hmax := Nat.one_lt_two_pow hcw.ne'
  have hroom : r.preSize ≠ cmax cw := by
    rw [hsize, Ne, eq_cmax_iff, BitVec.ofNat_eq_ofNat, BitVec.toNat_zero]
    omega
  rw [smpPh2_of_low h hroom, hsize]
  simp

/-- The low sample that `PRE_SIZE` has no room for raises RangeError (R123). -/
theorem smpPh2_of_overflow {v : Int} {r : Regs sw cw} (h : v ≤ r.vlow.toInt) (hsize : r.preSize = cmax cw) :
    smpPh2 v r = raise .rangeError r := by
  rcases smpPh2_cases v r with ⟨_, _, e⟩ | ⟨_, hroom, _⟩ | ⟨hstop, _⟩
  · exact e
  · exact absurd hsize hroom
  · omega

/-- The first sample above `VLOW` is the stop sample (R124). -/
theorem smpPh2_of_stop {v : Int} {r : Regs sw cw} (h : r.vlow.toInt < v) : smpPh2 v r = stopPh2 r := by
  rcases smpPh2_cases v r with ⟨hlow, _⟩ | ⟨hlow, _⟩ | ⟨_, e⟩
  · omega
  · omega
  · exact e

/-- The three tests of `zero_check()` ask whether there were fewer than `K_SHORT` low samples (R126, R127). -/
theorem calibration_zero_iff {size sh lo : BitVec cw} (hsh : sh.toNat = size.toNat / 11)
    (hlo : lo.toNat = size.toNat / 3) : size = 0 ∨ sh = 0 ∨ lo = 0 ↔ size.toNat < 11 := by
  have zero_iff (c : BitVec cw) : c = 0 ↔ c.toNat = 0 := by simp [← BitVec.toNat_inj]
  rw [zero_iff, zero_iff, zero_iff, hsh, hlo]
  omega

/-- A stop sample with no low sample before it: the sum of R124 is `PRE_START`, which fits, and both durations are 0. -/
theorem smpPh2_of_stop_of_no_low {v : Int} {r : Regs sw cw} (hv : r.vlow.toInt < v) (h : r.preSize = 0) :
    smpPh2 v r =
      { r with phase := .err, errCode := .calibration, preEnd := r.preStart, short := 0, long := 0 } := by
  have hsize : r.preSize.toNat = 0 := by simp [h]
  have hstart := r.preStart.isLt
  have hfits : ¬ 2 ^ cw - 1 < r.preStart.toNat + r.preSize.toNat := by omega
  obtain ⟨e, sh, lo, he, hsh, hlo, ⟨hmin, _⟩ | ⟨_, hstop⟩⟩ := stopPh2_cases r
  · omega
  · have hend : e = r.preStart := BitVec.eq_of_toNat_eq (by omega)
    have hshort : sh = 0 := BitVec.eq_of_toNat_eq (by simp [hsh, hsize])
    have hlong : lo = 0 := BitVec.eq_of_toNat_eq (by simp [hlo, hsize])
    simp [smpPh2_of_stop hv, hstop, hend, hshort, hlong, hfits]

/-! ## The steps that take the sample -/

section Steps

variable {i : Instr} {d : BitVec Config.sw} {s : State} {t : Regs Config.sw Config.cw}

/-- In Phase 1 `SMP` and its rows take the sample by the rule of Phase 1. -/
theorem exec_sample_of_ph1 (hi : i.operation = .smp d) (hp : s.phase = .ph1)
    (ht : smpPh1 d.toInt (clearStrobes s.toRegs) = t) : exec i s = .next { s with toRegs := t } := by
  rw [exec_of_operation_smp hi, smp_of_ph1 _ (clearStrobes s.toRegs) hp, sampleOf, ht]

/-- In Phase 2 `SMP` and its rows take the sample by the rule of Phase 2. -/
theorem exec_sample_of_ph2 (hi : i.operation = .smp d) (hp : s.phase = .ph2)
    (ht : smpPh2 d.toInt (clearStrobes s.toRegs) = t) : exec i s = .next { s with toRegs := t } := by
  rw [exec_of_operation_smp hi, smp_of_ph2 _ (clearStrobes s.toRegs) hp, sampleOf, ht]

/-- The sample that ends Phase 1 does what it does in Phase 2, whichever words select it (R121). -/
theorem exec_stop_of_ph1 {j : Instr} (hi : i.operation = .smp d) (hj : j.operation = .smp d) (hp : s.phase = .ph1)
    (hv : d.toInt < s.vhigh.toInt) : exec i s = exec j { s with phase := .ph2 } :=
  (exec_sample_of_ph1 hi hp (smpPh1_of_stop hv)).trans
    (exec_sample_of_ph2 (s := { s with phase := .ph2 }) hj rfl rfl).symm

end Steps

/-- Settles O23: a sample at or above `VHIGH` is `sat_inc(PRE_START)`, which splits at `CMAX`. -/
theorem phase1CountsALeadingHighSample : Obligations.Phase1CountsALeadingHighSample := by
  intro i d s hi hp hv
  have hop : i.operation = .smp d := by rcases hi with rfl | rfl <;> rfl
  have hcount : smpPh1 d.toInt (clearStrobes s.toRegs) = satIncPreStart (clearStrobes s.toRegs) := smpPh1_of_high hv
  refine ⟨fun hroom => ?counts, fun hmax => ?saturates⟩
  case counts => exact exec_sample_of_ph1 hop hp (hcount.trans (satIncPreStart_of_ne_cmax hroom))
  case saturates => exact exec_sample_of_ph1 hop hp (hcount.trans (satIncPreStart_of_eq_cmax hmax))

/-- Settles O25: a low sample splits at `PRE_SIZE = CMAX` into the count and the error. -/
theorem phase2CountsALowSampleOrRaisesRangeError : Obligations.Phase2CountsALowSampleOrRaisesRangeError := by
  intro i d s hi hp hv
  have hop : i.operation = .smp d := by rcases hi with rfl | rfl <;> rfl
  refine ⟨fun hroom => ?counts, fun hmax => ?raises⟩
  case counts => exact exec_sample_of_ph2 hop hp (smpPh2_of_low hv hroom)
  case raises => exact exec_sample_of_ph2 hop hp (smpPh2_of_overflow hv hmax)

/-- Settles O24: the rule of Phase 2 takes the sample with `PHASE` already `PH2`; there `PRE_SIZE` 0 counts to 1 or fails the
zero check. -/
theorem phase1StopSampleIsGivenToPhase2 : Obligations.Phase1StopSampleIsGivenToPhase2 := by
  intro d s hp hv
  have hgiven : smpPh1 d.toInt (clearStrobes s.toRegs) = smpPh2 d.toInt (setPhase .ph2 (clearStrobes s.toRegs)) :=
    smpPh1_of_stop hv
  refine ⟨exec_stop_of_ph1 rfl rfl hp hv, exec_stop_of_ph1 rfl rfl hp hv, fun hsize hlow => ?counts,
    fun hsize hstop => ?raises⟩
  case counts => exact exec_sample_of_ph1 rfl hp (hgiven.trans (smpPh2_of_first_low (by decide) hlow hsize))
  case raises => exact exec_sample_of_ph1 rfl hp (hgiven.trans (smpPh2_of_stop_of_no_low hstop hsize))

/-- Settles O26: the outcomes of the stop sample split at 11 low samples, which is what the three zero tests ask. -/
theorem phase2StopSampleCalibrates : Obligations.Phase2StopSampleCalibrates := by
  intro i d s hi hp hv
  have hop : i.operation = .smp d := by rcases hi with rfl | rfl <;> rfl
  have hstop : smpPh2 d.toInt (clearStrobes s.toRegs) = stopPh2 (clearStrobes s.toRegs) := smpPh2_of_stop hv
  obtain ⟨e, sh, lo, he, hsh, hlo, hcases⟩ := stopPh2_cases (clearStrobes s.toRegs)
  have hzero : s.preSize = 0 ∨ sh = 0 ∨ lo = 0 ↔ s.preSize.toNat < 11 := calibration_zero_iff hsh hlo
  refine ⟨e, sh, lo, _, he, rfl, hsh, hlo, fun hnonzero => ?calibrates, fun hsome => ?raises⟩
  case calibrates =>
    have hmin : ¬ s.preSize.toNat < 11 := mt hzero.2 (by simpa only [not_or] using hnonzero)
    rcases hcases with ⟨_, heq⟩ | ⟨hlt, _⟩
    · exact exec_sample_of_ph2 hop hp (hstop.trans heq)
    · exact absurd hlt hmin
  case raises =>
    rcases hcases with ⟨hmin, _⟩ | ⟨_, heq⟩
    · exact absurd (hzero.1 hsome) (Nat.not_lt.2 hmin)
    · exact exec_sample_of_ph2 hop hp (hstop.trans heq)

end Sys2Proof.Machine
end

section
/-! PROOFS. The statements of 42_pulse_classifier.md: the open pulse run and the symbol of a run (R140, R143, R147). -/

namespace Sys2Proof.Machine

variable {sw cw : Nat}

/-! ## The run counter (42_pulse_classifier.md R140) -/

/-- Below `CMAX` the run counter goes up by one. -/
theorem incRun_of_ne_cmax {r : Regs sw cw} (h : r.run ≠ cmax cw) : incRun r = { r with run := r.run + 1 } := by
  rw [incRun, satInc, if_neg h]

/-- At `CMAX` the run counter stays, and no flag says so: the saturation is silent (10_state.md R34). -/
theorem incRun_of_eq_cmax {r : Regs sw cw} (h : r.run = cmax cw) : incRun r = r := by
  rw [incRun, satInc, if_pos h]

/-- A sample above `VHIGH` is counted in the open run. -/
theorem smpPh3_of_high {v : Int} {r : Regs sw cw} (h : r.vhigh.toInt < v) : smpPh3 v r = incRun r := by
  rcases smpPh3_cases v r with ⟨_, e⟩ | ⟨hgap, _⟩ | ⟨hgap, _⟩
  · exact e
  · omega
  · omega

/-- In Phase 3 `SMP` and its rows take the sample by the rule of Phase 3. -/
theorem exec_sample_of_ph3 {i : Instr} {d : BitVec Config.sw} {s : State} {t : Regs Config.sw Config.cw}
    (hi : i.operation = .smp d) (hp : s.phase = .ph3) (ht : smpPh3 d.toInt (clearStrobes s.toRegs) = t) :
    exec i s = .next { s with toRegs := t } := by
  rw [exec_of_operation_smp hi, smp_of_ph3 _ (clearStrobes s.toRegs) hp, sampleOf, ht]

/-! ## The symbol of a run (42_pulse_classifier.md R142, R143) -/

/-- An empty run has no symbol, under either polarity. -/
theorem classify_zero (long : Nat) (rev : Bool) : classify 0 long rev = none := rfl

/-- Under the default polarity the symbol is 1 when the run is long. -/
theorem classify_default_of_ne_zero {run : Nat} (long : Nat) (h : run ≠ 0) :
    classify run long false = some (decide (3 * long ≤ 5 * run)) := by
  rw [classify_of_ne_zero _ _ _ h, Bool.xor_false, ← decide_not, decide_eq_decide.2 Nat.not_lt]

/-- Under the reversed polarity the symbol is 1 when the run is short. -/
theorem classify_reversed_of_ne_zero {run : Nat} (long : Nat) (h : run ≠ 0) :
    classify run long true = some (decide (5 * run < 3 * long)) := by
  rw [classify_of_ne_zero _ _ _ h, Bool.xor_true, Bool.not_not]

/-- Settles O28: a sample above `VHIGH` is one silent increment of `RUN`, which splits at `CMAX`. -/
theorem phase3HighSampleExtendsTheRun : Obligations.Phase3HighSampleExtendsTheRun := by
  intro i d s hi hp hv
  have hop : i.operation = .smp d := by rcases hi with rfl | rfl <;> rfl
  have hcount : smpPh3 d.toInt (clearStrobes s.toRegs) = incRun (clearStrobes s.toRegs) := smpPh3_of_high hv
  refine ⟨fun hroom => ?counts, fun hmax => ?saturates⟩
  case counts => exact exec_sample_of_ph3 hop hp (hcount.trans (incRun_of_ne_cmax hroom))
  case saturates => exact exec_sample_of_ph3 hop hp (hcount.trans (incRun_of_eq_cmax hmax))

/-- Settles O35: an empty run has no symbol; the two polarities read the one comparator in opposite ways. -/
theorem polaritySwapsTheTwoSymbols : Obligations.PolaritySwapsTheTwoSymbols := by
  intro run long
  refine ⟨fun hempty => ?empty, fun hrun => ?symbol⟩
  case empty =>
    subst hempty
    exact ⟨classify_zero long false, classify_zero long true⟩
  case symbol => exact ⟨classify_default_of_ne_zero long hrun, classify_reversed_of_ne_zero long hrun⟩

end Sys2Proof.Machine
end

section
/-! PROOFS. The statements of 43_frame_reassembler.md: the START bit, the full chunk and its byte (R161, R164, R165, R169). -/

namespace Sys2Proof.Machine

variable {sw cw : Nat}

/-! ## The bit order of a byte (43_frame_reassembler.md R162, R165) -/

/-- `bitrev8` exchanges the bits `k` and `7 - k` (R165). -/
theorem bitrev8_getLsbD (v : Byte) {k : Nat} (hk : k < 8) : (bitrev8 v).getLsbD k = v.getLsbD (7 - k) := by
  rw [bitrev8, BitVec.getLsbD_ofBoolListBE]
  interval_cases k <;> rfl

/-- Reversed twice, every bit is back at its place. -/
theorem bitrev8_bitrev8 (v : Byte) : bitrev8 (bitrev8 v) = v := by
  apply BitVec.eq_of_getLsbD_eq
  intro k hk
  have hback : 7 - (7 - k) = k := by omega
  rw [bitrev8_getLsbD _ hk, bitrev8_getLsbD _ (by omega), hback]

/-- Without `INV` the chunk leaves as it stands. -/
theorem pack_false (a : Byte) : pack a false = a := rfl

/-- With `INV` the chunk leaves reversed. -/
theorem pack_true (a : Byte) : pack a true = bitrev8 a := rfl

/-- The bits of a packed chunk, under either bit order (R165). -/
theorem pack_getLsbD (a : Byte) (inv : Bool) {k : Nat} (hk : k < 8) :
    (pack a inv).getLsbD k = if inv then a.getLsbD (7 - k) else a.getLsbD k := by
  cases inv
  case false => rfl
  case true => exact bitrev8_getLsbD a hk

/-- The accumulator as a number: the new symbol is its lowest bit and the old bit 7 is lost (R162). -/
theorem shiftIn_toNat (acc : Byte) (b : Bool) : (shiftIn acc b).toNat = (2 * acc.toNat + b.toNat) % 256 := by
  have hb : b.toNat < 2 ^ 1 := b.toNat_lt
  rw [shiftIn, BitVec.toNat_append, BitVec.extractLsb'_toNat, BitVec.toNat_ofBool, Nat.shiftRight_zero,
    ← Nat.shiftLeft_add_eq_or_of_lt hb, Nat.shiftLeft_eq]
  omega

/-! ## The sample that ends a run (42_pulse_classifier.md R141) -/

/-- A sample at or below `VHIGH` ends the open run with the symbol of its length. -/
theorem smpPh3_of_run_end {v : Int} {r : Regs sw cw} (hv : v ≤ r.vhigh.toInt) (hrun : r.run ≠ 0) :
    smpPh3 v r = closeRun (!(xor (decide (5 * r.run.toNat < 3 * r.long.toNat)) r.ctrlRev)) r := by
  rcases smpPh3_cases v r with ⟨hhigh, _⟩ | ⟨_, hnone, _⟩ | ⟨_, _, e⟩
  · omega
  · exact absurd hnone hrun
  · exact e

/-- Settles O36: bit `k` of a reversed chunk is bit `7 - k`, and that exchange undoes itself. -/
theorem packKeepsOrReversesTheBits : Obligations.PackKeepsOrReversesTheBits := by
  intro a
  have hround : pack a true = bitrev8 (pack a false) := by rw [pack_true, pack_false]
  exact ⟨pack_false a, fun k hk => pack_getLsbD a true hk, hround, bitrev8_bitrev8 a⟩

/-- Settles O30: the sample ends the run, and before the START bit the reassembler drops the run's symbol. -/
theorem firstRunOfAFrameIsTheStartBit : Obligations.FirstRunOfAFrameIsTheStartBit := by
  intro i d s hi hp hv hrun hstart
  have hop : i.operation = .smp d := by rcases hi with rfl | rfl <;> rfl
  have hend := smpPh3_of_run_end (r := clearStrobes s.toRegs) hv hrun
  exact exec_sample_of_ph3 hop hp (hend.trans (closeRun_of_start_bit _ _ hstart))

/-- Settles O32: the sample ends the run, and with seven symbols in `ACC` the run's symbol completes the byte. -/
theorem eighthSymbolEmitsTheByte : Obligations.EighthSymbolEmitsTheByte := by
  intro i d s hi hp hv hrun hstart hfull
  have hop : i.operation = .smp d := by rcases hi with rfl | rfl <;> rfl
  have hend := smpPh3_of_run_end (r := clearStrobes s.toRegs) hv hrun
  exact ⟨_, shiftIn s.acc _, pack _ s.ctrlInv, satInc s.byteCount, rfl, shiftIn_toNat s.acc _,
    fun k hk => pack_getLsbD _ s.ctrlInv hk, satInc_toNat s.byteCount,
    exec_sample_of_ph3 hop hp (hend.trans (closeRun_of_eighth _ _ hstart hfull))⟩

end Sys2Proof.Machine
end

section
/-! PROOFS. The statements of 60_exceptions.md: the exits from `ERR` and `DONE` (R203). -/

namespace Sys2Proof.Machine

/-- Outside a frame no instruction but `RST` and `START` has an effect beyond the default clear (60_exceptions.md R202
item 5); for `SMPE` because the ignored sample leaves its `END` half the same phase. -/
theorem effect_of_not_scanning {i : Instr} (hrst : i ≠ .rst)
    (hstart : ∀ vh vl rev inv verb, i ≠ .start vh vl rev inv verb) {r : Regs Config.sw Config.cw}
    (hs : scanning r.phase = false) : effect i r = r := by
  have hsmp (d : BitVec Config.sw) : smp (sampleOf d) r = r := smp_of_not_scanning _ r hs
  have hend : endCapture r = r := endCapture_of_not_scanning r hs
  rw [effect_eq_operation]
  cases i with
  | rst => exact absurd rfl hrst
  | start vh vl rev inv verb => exact absurd rfl (hstart vh vl rev inv verb)
  | nop => rfl
  | smpe d => exact (congrArg endCapture (hsmp d)).trans hend
  | smp d | smpPh1 d | smpPh2 d | smpPh3 d | smpX d => exact hsmp d
  | endOp | endPh1 | endPh2 | endPh3 | endX => exact hend

/-- Outside a frame every instruction but `RST` and `START` leaves the state with the strobes 0. -/
theorem exec_of_not_scanning {i : Instr} (hrst : i ≠ .rst)
    (hstart : ∀ vh vl rev inv verb, i ≠ .start vh vl rev inv verb) {s : State} (hs : scanning s.phase = false) :
    exec i s = .next { s with toRegs := clearStrobes s.toRegs } := by
  rw [exec_next_iff, effect_of_not_scanning hrst hstart (r := clearStrobes s.toRegs) hs]

/-- Settles O42: `RST` and `START` write `PHASE` and `ERR_CODE` from any state; in `ERR` and `DONE` no frame is open, so
every other instruction is ignored. -/
theorem onlyStartAndRstLeaveErrAndDone : Obligations.OnlyStartAndRstLeaveErrAndDone := by
  intro i s hphase
  have hs : scanning s.phase = false := (scanning_eq_false_iff _).2 (.inr hphase.symm)
  by_cases hrst : i = .rst
  · subst hrst
    exact ⟨_, exec_eq_operate _ s, .inl ⟨rfl, rfl, rfl⟩⟩
  by_cases hstart : ∃ vh vl rev inv verb, i = .start vh vl rev inv verb
  · obtain ⟨vh, vl, rev, inv, verb, rfl⟩ := hstart
    exact ⟨_, exec_eq_operate _ s, .inr (.inl ⟨vh, vl, rev, inv, verb, rfl, rfl, rfl⟩)⟩
  have hother (vh vl : BitVec Config.sw) (rev inv verb : Bool) : i ≠ .start vh vl rev inv verb :=
    fun h => hstart ⟨vh, vl, rev, inv, verb, h⟩
  exact ⟨_, exec_of_not_scanning hrst hother hs, .inr (.inr ⟨hrst, hother, rfl⟩)⟩

end Sys2Proof.Machine
end

section
/-! PROOFS. The statements of 30_encoding.md about the vector itself: pins and vector (R80), decode and encode (R81,
R86, R88) and the masks of the opcode table (R91). -/

namespace Sys2Proof

/-! ## Pins and vector (30_encoding.md R80) -/

variable {sw : Nat}

/-- A bit inside a placed field is a bit of the field. The upper bound tells `simp` this lemma from the next one. -/
theorem fieldAt_getLsbD_inside {w : Nat} (x : BitVec w) {lo k : Nat} (hlo : lo ≤ k) (_hw : k < lo + w)
    (hk : k < 3 * sw + 7) : (fieldAt sw x lo).getLsbD k = x.getLsbD (k - lo) := by
  rw [fieldAt_getLsbD, decide_eq_true hk, decide_eq_true hlo, Bool.true_and, Bool.true_and]

/-- A placed field has no bit below its place or above its width. -/
theorem fieldAt_getLsbD_outside {w : Nat} (x : BitVec w) {lo k : Nat} (h : k < lo ∨ lo + w ≤ k) :
    (fieldAt sw x lo).getLsbD k = false := by
  rw [fieldAt_getLsbD]
  rcases h with h | h
  · simp [Nat.not_le.2 h]
  · simp [BitVec.getLsbD_of_ge x (k - lo) (by omega)]

/-- The ten fields do not overlap: each bit of the vector is a bit of one field. -/
theorem Pins.ofVector_toVector (p : Pins sw) : Pins.ofVector p.toVector = p := by
  have flag (b : Bool) : (BitVec.ofBool b).getLsbD 0 = b := by cases b <;> rfl
  have field (x : BitVec sw) (lo : Nat) (h : ∀ k < sw, p.toVector.getLsbD (lo + k) = x.getLsbD k) :
      p.toVector.extractLsb' lo sw = x := by
    apply BitVec.eq_of_getLsbD_eq
    intro k hk
    rw [BitVec.getLsbD_extractLsb', h k hk, decide_eq_true hk, Bool.true_and]
  have hd := field p.sData 0
  have hvh := field p.cfgVhigh sw
  have hvl := field p.cfgVlow (2 * sw)
  simp +contextual (disch := omega) only [Pins.toVector, BitVec.getLsbD_or, fieldAt_getLsbD_inside,
    fieldAt_getLsbD_outside, Nat.add_sub_cancel_left, Nat.sub_zero, Nat.zero_add, Bool.or_false, Bool.false_or,
    implies_true, forall_const] at hd hvh hvl
  simp (disch := omega) only [Pins.ofVector, Pins.toVector, hd, hvh, hvl, BitVec.getLsbD_or, fieldAt_getLsbD_inside,
    fieldAt_getLsbD_outside, Nat.sub_self, flag, Bool.or_false, Bool.false_or]

/-- The ten fields cover the vector: laying them out again gives every bit back. -/
theorem Pins.toVector_ofVector (v : BitVec (Config.inWidth sw)) : (Pins.ofVector v : Pins sw).toVector = v := by
  have flag (b : Bool) : (BitVec.ofBool b).getLsbD 0 = b := by cases b <;> rfl
  have place (k : Nat) (hk : k < 3 * sw + 7) : k < sw ∨ (sw ≤ k ∧ k < 2 * sw) ∨ (2 * sw ≤ k ∧ k < 3 * sw) ∨
      k = 3 * sw ∨ k = 3 * sw + 1 ∨ k = 3 * sw + 2 ∨ k = 3 * sw + 3 ∨ k = 3 * sw + 4 ∨ k = 3 * sw + 5 ∨
      k = 3 * sw + 6 := by omega
  apply BitVec.eq_of_getLsbD_eq
  intro k hk
  rcases place k hk with h | ⟨h, h'⟩ | ⟨h, h'⟩ | rfl | rfl | rfl | rfl | rfl | rfl | rfl
  case inl | inr.inl | inr.inr.inl =>
    simp (disch := omega) only [Pins.toVector, Pins.ofVector, BitVec.getLsbD_or, fieldAt_getLsbD_inside,
      fieldAt_getLsbD_outside, BitVec.getLsbD_extractLsb', decide_eq_true, Nat.add_sub_cancel', Nat.sub_zero,
      Nat.zero_add, Bool.true_and, Bool.or_false, Bool.false_or]
  all_goals
    simp (disch := omega) only [Pins.toVector, Pins.ofVector, BitVec.getLsbD_or, fieldAt_getLsbD_inside,
      fieldAt_getLsbD_outside, Nat.sub_self, flag, Bool.or_false, Bool.false_or]

/-- Settles O1: no two fields of R80 overlap, and together they cover the vector. -/
theorem pinsAndVectorDetermineEachOther : Obligations.PinsAndVectorDetermineEachOther :=
  fun _ => ⟨Pins.ofVector_toVector, Pins.toVector_ofVector⟩

/-! ## Decode of encode (30_encoding.md R81, R88) -/

/-- The pins of an instruction select the operation whose words it has. -/
theorem Instr.operation_pins (i : Instr) : i.pins.operation = i.operation := by cases i <;> rfl

/-- A well-formed instruction is its own operation (30_encoding.md R82). -/
theorem Instr.operation_of_wellFormed {i : Instr} (h : i.wellFormed = true) : i.operation = i := by
  cases i with
  | rst | start | smpe | endOp | smp | nop => rfl
  | smpPh1 | smpPh2 | smpPh3 | smpX | endPh1 | endPh2 | endPh3 | endX => cases h

theorem decode_encode (i : Instr) : decode (encode i) = i.operation := by
  rw [decode, encode, Pins.ofVector_toVector, Instr.operation_pins]

/-- Settles O3: the vector gives the pins back, and these select the operation. -/
theorem decodeOfEncodeIsTheInstruction : Obligations.DecodeOfEncodeIsTheInstruction :=
  fun i => ⟨decode_encode i, fun h => (decode_encode i).trans (Instr.operation_of_wellFormed h)⟩

/-! ## Encode of decode (30_encoding.md R86, R88) -/

/-- Two vectors with the same pins are equal. -/
theorem Pins.ofVector_inj {v w : BitVec (Config.inWidth sw)} : (Pins.ofVector v : Pins sw) = Pins.ofVector w ↔ v = w :=
  ⟨fun h => by rw [← Pins.toVector_ofVector v, h, Pins.toVector_ofVector], fun h => by rw [h]⟩

/-- The pins masked field by field. -/
def Pins.and (p m : Pins sw) : Pins sw where
  sData := p.sData &&& m.sData
  cfgVhigh := p.cfgVhigh &&& m.cfgVhigh
  cfgVlow := p.cfgVlow &&& m.cfgVlow
  cfgReverse := p.cfgReverse && m.cfgReverse
  cfgInvert := p.cfgInvert && m.cfgInvert
  cfgVerbose := p.cfgVerbose && m.cfgVerbose
  sValid := p.sValid && m.sValid
  sEnd := p.sEnd && m.sEnd
  start := p.start && m.start
  rst := p.rst && m.rst

/-- Masking the vector masks its pins. -/
theorem Pins.ofVector_and (v m : BitVec (Config.inWidth sw)) :
    Pins.ofVector (v &&& m) = (Pins.ofVector v : Pins sw).and (Pins.ofVector m) := by
  simp only [Pins.ofVector, Pins.and, BitVec.extractLsb'_and, BitVec.getLsbD_and]

/-- The six rows of R81, by the control pins. -/
theorem Pins.control_cases (p : Pins sw) :
    p.rst = true ∨ (p.rst = false ∧ p.start = true) ∨
    (p.rst = false ∧ p.start = false ∧ p.sEnd = true ∧ p.sValid = true) ∨
    (p.rst = false ∧ p.start = false ∧ p.sEnd = true ∧ p.sValid = false) ∨
    (p.rst = false ∧ p.start = false ∧ p.sEnd = false ∧ p.sValid = true) ∨
    (p.rst = false ∧ p.start = false ∧ p.sEnd = false ∧ p.sValid = false) := by
  cases p.rst <;> cases p.start <;> cases p.sEnd <;> cases p.sValid <;> decide

/-- Masks of pins: the four control pins, which every row but the first two asks. -/
def Pins.controlMask (sw : Nat) : Pins sw :=
  { Pins.nop sw with sValid := true, sEnd := true, start := true, rst := true }

/-- The bits that a row uses, as pins: the control pins it asks and its operand fields (30_encoding.md R91). -/
def Instr.usedPins : Instr → Pins Config.sw
  | .rst => Pins.ofRst _
  | .start _ _ _ _ _ => { Pins.ofStart (BitVec.allOnes _) (BitVec.allOnes _) true true true with rst := true }
  | .smpe _ | .smp _ | .smpPh1 _ | .smpPh2 _ | .smpPh3 _ | .smpX _ =>
    { Pins.controlMask _ with sData := BitVec.allOnes _ }
  | .endOp | .nop | .endPh1 | .endPh2 | .endPh3 | .endX => Pins.controlMask _

/-- `Instr.usedPins` are the table's columns `mask` and `encoding`. -/
theorem Instr.ofVector_rowMask_or_rowOperands (i : Instr) :
    Pins.ofVector (i.rowMask ||| i.rowOperands) = i.usedPins := by
  have start : Pins.ofVector (sw := Config.sw) (0x60000000000000#55 ||| 0x07FFFFFFFF0000#55) =
      { Pins.ofStart (BitVec.allOnes _) (BitVec.allOnes _) true true true with rst := true } := by decide
  have sample : Pins.ofVector (sw := Config.sw) (0x78000000000000#55 ||| 0x0000000000FFFF#55) =
      { Pins.controlMask _ with sData := BitVec.allOnes _ } := by decide
  cases i with
  | start => exact start
  | smpe | smp | smpPh1 | smpPh2 | smpPh3 | smpX => exact sample
  | rst | endOp | nop | endPh1 | endPh2 | endPh3 | endX => rfl

/-- The used pins of the decoded operation are the pins that select it, unused fields 0 (30_encoding.md R88). -/
theorem Pins.and_usedPins_operation (p : Pins Config.sw) : p.and p.operation.usedPins = p.operation.pins := by
  have ones (x : BitVec Config.sw) : x &&& BitVec.allOnes _ = x := BitVec.and_allOnes
  rcases p.control_cases with hrst | ⟨hrst, hstart⟩ | ⟨hrst, hstart, hend, hvalid⟩ | ⟨hrst, hstart, hend, hvalid⟩ |
    ⟨hrst, hstart, hend, hvalid⟩ | ⟨hrst, hstart, hend, hvalid⟩
  · simp [operation_of_rst hrst, Pins.and, Instr.usedPins, Instr.pins, ofRst, nop, hrst]
  · simp [operation_of_start hrst hstart, Pins.and, Instr.usedPins, Instr.pins, ofStart, nop, hrst, hstart, ones]
  · simp [operation_of_sEnd_sValid hrst hstart hend hvalid, Pins.and, Instr.usedPins, Instr.pins, controlMask, ofSmpe,
      nop, *]
  · simp [operation_of_sEnd hrst hstart hend hvalid, Pins.and, Instr.usedPins, Instr.pins, controlMask, ofEnd, nop, *]
  · simp [operation_of_sValid hrst hstart hend hvalid, Pins.and, Instr.usedPins, Instr.pins, controlMask, ofSmp, nop, *]
  · simp [operation_of_none hrst hstart hend hvalid, Pins.and, Instr.usedPins, Instr.pins, controlMask, nop, *]

/-- The pins select one of the six operations, never a sub-operation (30_encoding.md R82). -/
theorem Pins.operation_wellFormed (p : Pins Config.sw) : p.operation.wellFormed = true := by
  unfold Pins.operation
  split_ifs <;> rfl

/-- Settles O4: as pins, both sides are the pins that select the decoded operation. -/
theorem encodeOfDecodeKeepsTheUsedBits : Obligations.EncodeOfDecodeKeepsTheUsedBits := by
  intro v
  refine ⟨Pins.operation_wellFormed _, Pins.ofVector_inj.1 ?_⟩
  rw [encode, Pins.ofVector_toVector, Pins.ofVector_and, Instr.ofVector_rowMask_or_rowOperands]
  exact (Pins.and_usedPins_operation (Pins.ofVector v)).symm

/-! ## The masks of the opcode table (30_encoding.md R91) -/

/-- Whether the control pins match a row: the test of the table's columns `mask` and `match`, as a condition on
pins. -/
def Instr.selectedBy (p : Pins Config.sw) : Instr → Prop
  | .rst => p.rst = true
  | .start _ _ _ _ _ => p.rst = false ∧ p.start = true
  | .smpe _ => p.rst = false ∧ p.start = false ∧ p.sEnd = true ∧ p.sValid = true
  | .endOp | .endPh1 | .endPh2 | .endPh3 | .endX =>
    p.rst = false ∧ p.start = false ∧ p.sEnd = true ∧ p.sValid = false
  | .smp _ | .smpPh1 _ | .smpPh2 _ | .smpPh3 _ | .smpX _ =>
    p.rst = false ∧ p.start = false ∧ p.sEnd = false ∧ p.sValid = true
  | .nop => p.rst = false ∧ p.start = false ∧ p.sEnd = false ∧ p.sValid = false

/-- A `match` of the four control pins. -/
theorem Pins.and_controlMask_eq_iff (p : Pins Config.sw) (en valid : Bool) :
    p.and (Pins.controlMask _) = { Pins.nop _ with sEnd := en, sValid := valid } ↔
      p.rst = false ∧ p.start = false ∧ p.sEnd = en ∧ p.sValid = valid := by
  simp only [Pins.and, Pins.controlMask, Pins.nop, Pins.mk.injEq, Bool.and_true, Bool.and_false, BitVec.and_zero,
    BitVec.ofNat_eq_ofNat, true_and]
  tauto

/-- A row's `mask` and `match` test exactly its condition on the control pins. -/
theorem Instr.and_rowMask_eq_rowMatch_iff (v : InVector) (i : Instr) :
    v &&& i.rowMask = i.rowMatch ↔ i.selectedBy (Pins.ofVector v) := by
  have control (m : InVector) (en valid : Bool)
      (hm : Pins.ofVector m = { Pins.nop Config.sw with sEnd := en, sValid := valid }) :
      v &&& 0x78000000000000#55 = m ↔ (Pins.ofVector v : Pins Config.sw).rst = false ∧
        (Pins.ofVector v : Pins Config.sw).start = false ∧
        (Pins.ofVector v : Pins Config.sw).sEnd = en ∧ (Pins.ofVector v : Pins Config.sw).sValid = valid := by
    have hmask : Pins.ofVector 0x78000000000000#55 = Pins.controlMask Config.sw := by decide
    rw [← Pins.ofVector_inj, Pins.ofVector_and, hmask, hm, Pins.and_controlMask_eq_iff]
  cases i with
  | rst =>
    have hmask : Pins.ofVector 0x40000000000000#55 = Pins.ofRst Config.sw := by decide
    rw [← Pins.ofVector_inj, Pins.ofVector_and, rowMask, rowMatch, hmask]
    simp [Pins.and, Pins.ofRst, Pins.nop, selectedBy]
  | start =>
    have hmask : Pins.ofVector 0x60000000000000#55 = { Pins.ofRst Config.sw with start := true } := by decide
    have hmatch : Pins.ofVector 0x20000000000000#55 = { Pins.nop Config.sw with start := true } := by decide
    rw [← Pins.ofVector_inj, Pins.ofVector_and, rowMask, rowMatch, hmask, hmatch]
    simp [Pins.and, Pins.ofRst, Pins.nop, selectedBy, and_comm]
  | smpe => exact control 0x18000000000000#55 true true (by decide)
  | endOp | endPh1 | endPh2 | endPh3 | endX => exact control 0x10000000000000#55 true false (by decide)
  | smp | smpPh1 | smpPh2 | smpPh3 | smpX => exact control 0x08000000000000#55 false true (by decide)
  | nop => exact control 0x00000000000000#55 false false (by decide)

/-- The decoded operation's row matches the pins. -/
theorem Pins.selectedBy_operation (p : Pins Config.sw) : p.operation.selectedBy p := by
  rcases p.control_cases with hrst | ⟨hrst, hstart⟩ | ⟨hrst, hstart, hend, hvalid⟩ | ⟨hrst, hstart, hend, hvalid⟩ |
    ⟨hrst, hstart, hend, hvalid⟩ | ⟨hrst, hstart, hend, hvalid⟩
  · rw [operation_of_rst hrst]; exact hrst
  · rw [operation_of_start hrst hstart]; exact ⟨hrst, hstart⟩
  · rw [operation_of_sEnd_sValid hrst hstart hend hvalid]; exact ⟨hrst, hstart, hend, hvalid⟩
  · rw [operation_of_sEnd hrst hstart hend hvalid]; exact ⟨hrst, hstart, hend, hvalid⟩
  · rw [operation_of_sValid hrst hstart hend hvalid]; exact ⟨hrst, hstart, hend, hvalid⟩
  · rw [operation_of_none hrst hstart hend hvalid]; exact ⟨hrst, hstart, hend, hvalid⟩

/-- A row that matches the pins is the decoded operation's row. -/
theorem Pins.rowMatch_operation_of_selectedBy {p : Pins Config.sw} {i : Instr} (h : i.selectedBy p) :
    p.operation.rowMatch = i.rowMatch := by
  cases i with
  | rst => exact (congrArg Instr.rowMatch (operation_of_rst h)).trans rfl
  | start =>
    obtain ⟨hrst, hstart⟩ := h
    exact (congrArg Instr.rowMatch (operation_of_start hrst hstart)).trans rfl
  | smpe =>
    obtain ⟨hrst, hstart, hend, hvalid⟩ := h
    exact (congrArg Instr.rowMatch (operation_of_sEnd_sValid hrst hstart hend hvalid)).trans rfl
  | endOp | endPh1 | endPh2 | endPh3 | endX =>
    obtain ⟨hrst, hstart, hend, hvalid⟩ := h
    exact (congrArg Instr.rowMatch (operation_of_sEnd hrst hstart hend hvalid)).trans rfl
  | smp | smpPh1 | smpPh2 | smpPh3 | smpX =>
    obtain ⟨hrst, hstart, hend, hvalid⟩ := h
    exact (congrArg Instr.rowMatch (operation_of_sValid hrst hstart hend hvalid)).trans rfl
  | nop =>
    obtain ⟨hrst, hstart, hend, hvalid⟩ := h
    exact (congrArg Instr.rowMatch (operation_of_none hrst hstart hend hvalid)).trans rfl

/-- Column `mask` as a function of column `match`: only the rows of `RST` and `START` ask fewer than four control
pins. -/
def maskOfMatch (m : InVector) : InVector :=
  if m = 0x40000000000000#55 then 0x40000000000000#55
  else if m = 0x20000000000000#55 then 0x60000000000000#55
  else 0x78000000000000#55

theorem Instr.rowMask_eq_maskOfMatch (i : Instr) : i.rowMask = maskOfMatch i.rowMatch := by
  cases i <;> rfl

/-- Settles O5: the decoded row matches, a row that matches is the decoded one, and rows with one `match` have one
`mask`. -/
theorem onlyTheDecodedRowMatches : Obligations.OnlyTheDecodedRowMatches := by
  intro v i _
  have hdecoded : v &&& (decode v).rowMask = (decode v).rowMatch :=
    (Instr.and_rowMask_eq_rowMatch_iff v _).2 (Pins.selectedBy_operation (.ofVector v))
  constructor
  · exact fun h => Pins.rowMatch_operation_of_selectedBy ((Instr.and_rowMask_eq_rowMatch_iff v i).1 h)
  · intro h
    rwa [Instr.rowMask_eq_maskOfMatch, h, ← Instr.rowMask_eq_maskOfMatch] at hdecoded

/-- Settles O6: eight closed decodings. -/
theorem specWordsDecodeAsWritten : Obligations.SpecWordsDecodeAsWritten := by
  unfold Obligations.SpecWordsDecodeAsWritten
  decide

end Sys2Proof
end

section
/-! PROOFS. The statements of 00_scope.md section 5 and 40_control_ops.md R109: a step is the pseudocode on the pins
that it samples. -/

namespace Sys2Proof.Machine

/-! ## One step -/

/-- The decoded operation does, after the default clear, what the pseudocode does on the pins (40_control_ops.md
R109). -/
theorem effect_operation (p : Pins Config.sw) (r : Regs Config.sw Config.cw) :
    effect p.operation (clearStrobes r) = clock p r := by
  rcases clock_cases p r with ⟨hrst, e⟩ | ⟨hrst, hstart, e⟩ | ⟨hrst, hstart, hend, hvalid, e⟩ |
    ⟨hrst, hstart, hend, hvalid, e⟩ | ⟨hrst, hstart, hend, hvalid, e⟩ | ⟨hrst, hstart, hend, hvalid, e⟩
  · rw [e, Pins.operation_of_rst hrst]; rfl
  · rw [e, Pins.operation_of_start hrst hstart]; rfl
  · rw [e, Pins.operation_of_sEnd_sValid hrst hstart hend hvalid]; rfl
  · rw [e, Pins.operation_of_sEnd hrst hstart hend hvalid]; rfl
  · rw [e, Pins.operation_of_sValid hrst hstart hend hvalid]; rfl
  · rw [e, Pins.operation_of_none hrst hstart hend hvalid]; rfl

/-- Executing the operation of a vector is the pseudocode on its pins. -/
theorem exec_decode (v : InVector) (s : State) :
    exec (decode v) s = .next { s with toRegs := clock (.ofVector v) s.toRegs } := by
  rw [exec_next_iff, decode, effect_operation]

/-- Sampling the pins touches no register. -/
theorem sampleInput_toRegs (s : State) : (sampleInput s).2.toRegs = s.toRegs := by
  unfold sampleInput
  split <;> rfl

/-- Everything a step does: the pseudocode on the pins sampled, listed or free. -/
theorem step_eq (s : State) :
    step s = .next { (sampleInput s).2 with toRegs := clock (.ofVector (sampleInput s).1) s.toRegs } := by
  rw [step, exec_decode, sampleInput_toRegs]

theorem step_of_listed {s : State} {v : InVector} {rest : List InVector} (h : s.input = v :: rest) :
    step s = exec (decode v) { s with input := rest } := by
  rw [step, sampleInput_of_listed s v rest h]

theorem step_of_empty {s : State} (h : s.input = []) :
    step s = exec (decode (Config.undrivenPins s.tick)) { s with tick := s.tick + 1 } := by
  rw [step, sampleInput_of_empty s h]

/-- Settles O7: what is sampled is decoded and executed, and a meaning touches the registers only. -/
theorem stepRunsTheDecodedOperation : Obligations.StepRunsTheDecodedOperation := by
  refine ⟨?listed, fun s h => step_of_empty h, ?frame⟩
  case listed =>
    rintro s v rest i h rfl _
    exact step_of_listed h
  case frame =>
    intro i s t h
    rw [(exec_next_iff i s t).1 h]
    exact ⟨rfl, rfl⟩

/-- A word that the table's decoder reads is an input vector, of the instruction read (30_encoding.md R80). -/
theorem decode_of_decodeTableWord {nbits w : Nat} {i : Instr} (h : decodeTableWord nbits w = some i) :
    decode (BitVec.ofNat _ (w % 2 ^ nbits)) = i := by
  by_cases hwidth : w % 2 ^ nbits < 2 ^ Config.inWidth Config.sw
  · simpa only [decodeTableWord, decodeNat, if_pos hwidth, Option.some.injEq] using h
  · simp only [decodeTableWord, decodeNat, if_neg hwidth, reduceCtorEq] at h

/-- Settles O8: the presented vector is the one sampled, and with it taken the state is as before. -/
theorem presentedWordIsRunNext : Obligations.PresentedWordIsRunNext := by
  intro s nbits w i h
  rw [step_of_listed (rest := s.input) rfl, decode_of_decodeTableWord h]
  rfl

/-- Settles O9: the listed vector is the one sampled. -/
theorem stepIsThePseudocodeOnThePins : Obligations.StepIsThePseudocodeOnThePins := by
  intro s v rest h
  rw [step_of_listed h, exec_decode]

/-- Settles O10: every step and every meaning is one update of the registers. -/
theorem nothingStopsTheMachine : Obligations.NothingStopsTheMachine :=
  ⟨fun s => ⟨_, step_eq s⟩, fun i s => ⟨_, exec_eq_operate i s⟩⟩

/-- Settles O18: an instruction and its operation have the same effect in every phase. -/
theorem subOperationRowsActAsTheirWords : Obligations.SubOperationRowsActAsTheirWords :=
  fun i s => exec_congr (effect_eq_operation i (clearStrobes s.toRegs))

/-! ## Runs -/

/-- A run takes its first step and goes on from there. -/
theorem run_succ_of_step {s t : State} (k : Nat) (h : step s = .next t) :
    Host.Core.run Sys2Proof.core (k + 1) s = Host.Core.run Sys2Proof.core k t := by
  have hstep : Sys2Proof.core.step s = .next t := h
  simp only [Host.Core.run, hstep]

/-- Settles O12, by induction on the list of pins: each step takes one vector, whose pins are the ones laid out. -/
theorem runOfListedVectorsIsRunPins : Obligations.RunOfListedVectorsIsRunPins := by
  intro ps rest
  induction ps with
  | nil => intro s; rfl
  | cons p ps ih =>
    intro s
    have hstep : step { s with input := (p :: ps).map Pins.toVector ++ rest } =
        .next { s with toRegs := clock p s.toRegs, input := ps.map Pins.toVector ++ rest } := by
      rw [step_of_listed (v := p.toVector) (rest := ps.map Pins.toVector ++ rest) rfl, exec_decode,
        Pins.ofVector_toVector]
    exact (run_succ_of_step ps.length hstep).trans (ih { s with toRegs := clock p s.toRegs })

/-! ## The configuration over a step (10_state.md R28) -/

/-- Without `rst` and `start` a step leaves the configuration, at every width. -/
theorem config_clock {sw cw : Nat} {p : Pins sw} (hrst : p.rst = false) (hstart : p.start = false) (r : Regs sw cw) :
    (clock p r).config = r.config := by
  rcases clock_cases p r with ⟨h, _⟩ | ⟨_, h, _⟩ | ⟨_, _, _, _, e⟩ | ⟨_, _, _, _, e⟩ | ⟨_, _, _, _, e⟩ | ⟨_, _, _, _, e⟩
  · rw [hrst] at h; cases h
  · rw [hstart] at h; cases h
  · rw [e, config_endCapture, config_smp]; rfl
  · rw [e, config_endCapture]; rfl
  · rw [e, config_smp]; rfl
  · rw [e]; rfl

/-- `CTRL` is part of the configuration. -/
theorem ctrl_eq_of_config {sw cw : Nat} {r q : Regs sw cw} (h : q.config = r.config) : q.ctrl = r.ctrl := by
  simp only [Regs.config, Prod.mk.injEq] at h
  obtain ⟨_, _, hctrl⟩ := h
  exact hctrl

/-- Settles O44: bits 54 and 53 are the pins `rst` and `start`. -/
theorem configurationChangesOnlyInStartAndRst : Obligations.ConfigurationChangesOnlyInStartAndRst := by
  intro s t v rest hinput hstep hrst hstart
  rw [stepIsThePseudocodeOnThePins s v rest hinput] at hstep
  cases hstep
  have hconfig := config_clock (p := .ofVector v) hrst hstart s.toRegs
  simpa [Regs.config] using hconfig

/-! ## Reset (10_state.md R45) -/

/-- Settles O47: the registers of `State.reset` are those that `RST` makes. -/
theorem resetStateIsWhatRstLeaves : Obligations.ResetStateIsWhatRstLeaves :=
  ⟨fun k => Regs.reset_x k, fun _ => rfl, rfl, rfl⟩

end Sys2Proof.Machine
end

section
/-! PROOFS. The invariants of 10_state.md R47 and the error record of 60_exceptions.md R198: at reset, after
`START`, and over every step. -/

namespace Sys2Proof.Machine

variable {sw cw : Nat}

/-! ## What the operations leave unchanged (10_state.md R46) -/

/-- The registers of the reassembler and of the two output taps. -/
def Regs.payload (r : Regs sw cw) : Bool × BitVec 8 × BitVec 3 × BitVec cw × Bool × BitVec 8 × Bool × Bool :=
  (r.startSeen, r.acc, r.bitcnt, r.byteCount, r.bValid, r.bData, r.symValid, r.sym)

theorem payload_stopPh2 (r : Regs sw cw) : (stopPh2 r).payload = r.payload := by
  obtain ⟨_, _, _, _, _, _, ⟨_, e⟩ | ⟨_, e⟩⟩ := stopPh2_cases r <;> rw [e] <;> rfl

theorem payload_smpPh2 (v : Int) (r : Regs sw cw) : (smpPh2 v r).payload = r.payload := by
  rcases smpPh2_cases v r with ⟨_, _, e⟩ | ⟨_, _, e⟩ | ⟨_, e⟩ <;> rw [e]
  · rfl
  · rfl
  · exact payload_stopPh2 r

/-- The preamble detector does not touch the payload registers. -/
theorem payload_smpPh1 (v : Int) (r : Regs sw cw) : (smpPh1 v r).payload = r.payload := by
  rcases smpPh1_cases v r with ⟨_, e⟩ | ⟨_, e⟩ <;> rw [e]
  · rfl
  · exact payload_smpPh2 v (setPhase .ph2 r)

/-- Neither does the end of a capture. -/
theorem payload_endCapture (r : Regs sw cw) : (endCapture r).payload = r.payload := by
  rcases endCapture_cases r with ⟨_, _, e⟩ | ⟨_, _, e⟩ | ⟨_, e⟩ | ⟨_, e⟩ | ⟨_, e⟩ <;> rw [e] <;> rfl

/-- The registers that the preamble detector measures. -/
def Regs.preamble (r : Regs sw cw) : BitVec cw × BitVec cw × BitVec cw × BitVec cw × BitVec cw :=
  (r.preStart, r.preSize, r.preEnd, r.short, r.long)

theorem preamble_pushSymbol (b : Bool) (r : Regs sw cw) : (pushSymbol b r).preamble = r.preamble := by
  rcases pushSymbol_cases b r with ⟨_, e⟩ | ⟨_, _, e⟩ | ⟨_, _, e⟩ <;> rw [e] <;> rfl

/-- The payload scan does not touch what the preamble detector measured. -/
theorem preamble_smpPh3 (v : Int) (r : Regs sw cw) : (smpPh3 v r).preamble = r.preamble := by
  rcases smpPh3_cases v r with ⟨_, e⟩ | ⟨_, _, e⟩ | ⟨_, _, e⟩ <;> rw [e]
  · rfl
  · exact preamble_pushSymbol _ (emitSym _ r)

/-- Everything the end of a pulse run does (42_pulse_classifier.md R141; 43_frame_reassembler.md R161 to R166). -/
theorem closeRun_cases (b : Bool) (r : Regs sw cw) :
    (r.startSeen = false ∧ closeRun b r = { r with sym := b, symValid := true, startSeen := true, run := 0 }) ∨
    (r.startSeen = true ∧ r.bitcnt ≠ 7 ∧ closeRun b r =
      { r with sym := b, symValid := true, acc := shiftIn r.acc b, bitcnt := r.bitcnt + 1, run := 0 }) ∨
    (r.startSeen = true ∧ r.bitcnt = 7 ∧ closeRun b r =
      { r with
        sym := b, symValid := true, acc := shiftIn r.acc b, bitcnt := 0, run := 0
        bData := pack (shiftIn r.acc b) r.ctrlInv, bValid := true
        byteCount := satInc r.byteCount, diagSat := satFlag r.byteCount r.diagSat }) := by
  rcases Bool.eq_false_or_eq_true r.startSeen with hs | hs
  · by_cases h7 : r.bitcnt = 7
    · exact .inr (.inr ⟨hs, h7, closeRun_of_eighth b r hs h7⟩)
    · exact .inr (.inl ⟨hs, h7, closeRun_of_payload b r hs h7⟩)
  · exact .inl ⟨hs, closeRun_of_start_bit b r hs⟩

/-! ## The invariants, phase by phase -/

/-- Payload registers as `START` leaves them. -/
def Regs.NoPayload (r : Regs sw cw) : Prop := r.payload = (false, 0, 0, 0, false, 0, false, false)

theorem Regs.noPayload_iff (r : Regs sw cw) :
    r.NoPayload ↔ r.startSeen = false ∧ r.acc = 0 ∧ r.bitcnt = 0 ∧ r.byteCount = 0 ∧ r.bValid = false ∧ r.bData = 0 ∧
      r.symValid = false ∧ r.sym = false := by
  simp only [NoPayload, payload, Prod.mk.injEq]

/-- A frame in `PH2`, possibly with no low sample counted yet, as the sample that ends Phase 1 finds it
(41_preamble_detector.md R121). -/
structure InPreamble (r : Regs sw cw) : Prop where
  phase : r.phase = .ph2
  errCode : r.errCode = .none
  measured : r.preEnd = 0 ∧ r.short = 0 ∧ r.long = 0 ∧ r.run = 0
  payload : r.NoPayload

theorem Inv.noPayload {r : Regs sw cw} (h : Inv r) (h3 : r.phase ≠ .ph3) (hd : r.phase ≠ .done) : r.NoPayload :=
  r.noPayload_iff.2 (h.no_payload h3 hd)

theorem Inv.errCode_none {r : Regs sw cw} (h : Inv r) (hp : r.phase ≠ .err) : r.errCode = .none := by
  by_contra hne
  exact hp (h.errCode_iff.2 hne)

theorem Inv.inPreamble_of_ph2 {r : Regs sw cw} (h : Inv r) (hp : r.phase = .ph2) : InPreamble r where
  phase := hp
  errCode := h.errCode_none (by simp [hp])
  measured := (h.ph2 hp).2
  payload := h.noPayload (by simp [hp]) (by simp [hp])

theorem Inv.inPreamble_of_ph1 {r : Regs sw cw} (h : Inv r) (hp : r.phase = .ph1) : InPreamble (setPhase .ph2 r) where
  phase := rfl
  errCode := h.errCode_none (by simp [hp])
  measured := (h.idle_ph1 (.inr hp)).2
  payload := h.noPayload (by simp [hp]) (by simp [hp])

/-- What the invariants ask in `PH2`. -/
theorem InPreamble.inv {r : Regs sw cw} (h : InPreamble r) (hsize : 1 ≤ r.preSize.toNat) : Inv r := by
  obtain ⟨hstart, hacc, hcnt, hbytes, hb, hbd, hsym, hs⟩ := r.noPayload_iff.1 h.payload
  constructor <;> simp_all [h.phase, h.errCode, h.measured]

/-- What the invariants ask in `ERR`. -/
theorem Inv.of_err {r : Regs sw cw} (hp : r.phase = .err) (he : r.errCode ≠ .none) (hpay : r.NoPayload) : Inv r := by
  obtain ⟨hstart, hacc, hcnt, hbytes, hb, hbd, hsym, hs⟩ := r.noPayload_iff.1 hpay
  constructor <;> simp_all

/-- What the invariants ask in `PH3` and `DONE`. -/
theorem Inv.of_calibrated {r : Regs sw cw} (hp : r.phase = .ph3 ∨ r.phase = .done) (he : r.errCode = .none)
    (hmin : 11 ≤ r.preSize.toNat) (hshort : r.short.toNat = r.preSize.toNat / 11)
    (hlong : r.long.toNat = r.preSize.toNat / 3)
    (hstart : r.startSeen = false → r.bitcnt = 0 ∧ r.byteCount = 0 ∧ r.acc = 0)
    (hbyte : r.bValid = true → r.symValid = true ∧ r.bitcnt = 0) : Inv r where
  errCode_iff := by rcases hp with hp | hp <;> simp [hp, he]
  idle_ph1 := by rcases hp with hp | hp <;> simp [hp]
  ph2 := by rcases hp with hp | hp <;> simp [hp]
  calibrated _ := ⟨hmin, hshort, by omega, hlong, by omega⟩
  no_payload h3 hd := absurd hp (by simp [h3, hd])
  no_start_bit := hstart
  byte_strobe := hbyte

/-! ## Every operation keeps them -/

theorem Inv.clearStrobes {r : Regs sw cw} (h : Inv r) : Inv (clearStrobes r) where
  errCode_iff := h.errCode_iff
  idle_ph1 := h.idle_ph1
  ph2 := h.ph2
  calibrated := h.calibrated
  no_payload h3 hd := by
    obtain ⟨hstart, hacc, hcnt, hbytes, _, hbd, _, hs⟩ := h.no_payload h3 hd
    exact ⟨hstart, hacc, hcnt, hbytes, rfl, hbd, rfl, hs⟩
  no_start_bit := h.no_start_bit
  byte_strobe hb := by cases hb

theorem InPreamble.inv_stopPh2 {r : Regs sw cw} (h : InPreamble r) : Inv (stopPh2 r) := by
  have hpay : (stopPh2 r).NoPayload := (payload_stopPh2 r).trans h.payload
  obtain ⟨hstart, hacc, hcnt, hbytes, hb, hbd, hsym, hs⟩ := (stopPh2 r).noPayload_iff.1 hpay
  obtain ⟨e, sh, lo, _, hsh, hlo, ⟨hmin, heq⟩ | ⟨_, heq⟩⟩ := stopPh2_cases r
  · refine .of_calibrated (.inl (by rw [heq])) (by rw [heq]; exact h.errCode) (by rw [heq]; exact hmin)
      (by rw [heq]; exact hsh) (by rw [heq]; exact hlo) (fun _ => ⟨hcnt, hbytes, hacc⟩) ?_
    rw [hb]
    exact fun h => by cases h
  · exact .of_err (by rw [heq]) (by rw [heq]; simp) hpay

theorem InPreamble.inv_smpPh2 {r : Regs sw cw} (h : InPreamble r) (v : Int) : Inv (smpPh2 v r) := by
  rcases smpPh2_cases v r with ⟨_, _, e⟩ | ⟨_, hroom, e⟩ | ⟨_, e⟩ <;> rw [e]
  · exact .of_err rfl (by simp [errorCode]) h.payload
  · have hcounted : InPreamble { r with preSize := r.preSize + 1 } := ⟨h.phase, h.errCode, h.measured, h.payload⟩
    refine hcounted.inv ?_
    rw [succ_toNat_of_ne_cmax _ hroom]
    omega
  · exact h.inv_stopPh2

/-- A high sample of Phase 1 changes no register that an invariant of `PH1` names. -/
theorem Inv.satIncPreStart {r : Regs sw cw} (h : Inv r) (hp : r.phase = .ph1) : Inv (satIncPreStart r) where
  errCode_iff := h.errCode_iff
  idle_ph1 := h.idle_ph1
  ph2 := h.ph2
  calibrated h3 := by simp [hp] at h3
  no_payload := h.no_payload
  no_start_bit := h.no_start_bit
  byte_strobe := h.byte_strobe

theorem Inv.smpPh1 {r : Regs sw cw} (h : Inv r) (hp : r.phase = .ph1) (v : Int) : Inv (smpPh1 v r) := by
  rcases smpPh1_cases v r with ⟨_, e⟩ | ⟨_, e⟩ <;> rw [e]
  · exact h.satIncPreStart hp
  · exact (h.inPreamble_of_ph1 hp).inv_smpPh2 v

/-- The end of a run keeps what the invariants say of the reassembler: with the START bit seen `no_start_bit` asks
nothing, and the one case that sets `B_VALID` sets `SYM_VALID` and clears `BITCNT`. -/
theorem closeRun_reassembler (b : Bool) {r : Regs sw cw} (hb : r.bValid = false) :
    (closeRun b r).startSeen = true ∧
      ((closeRun b r).bValid = true → (closeRun b r).symValid = true ∧ (closeRun b r).bitcnt = 0) := by
  rcases closeRun_cases b r with ⟨_, e⟩ | ⟨hs, _, e⟩ | ⟨hs, _, e⟩ <;> rw [e]
  · exact ⟨rfl, fun h => by rw [hb] at h; cases h⟩
  · exact ⟨hs, fun h => by rw [hb] at h; cases h⟩
  · exact ⟨hs, fun _ => ⟨rfl, rfl⟩⟩

theorem Inv.smpPh3 {r : Regs sw cw} (h : Inv r) (hp : r.phase = .ph3) (hb : r.bValid = false) (v : Int) :
    Inv (smpPh3 v r) := by
  obtain ⟨hphase, herr⟩ := smpPh3_phase_errCode v r
  have hmeasured := preamble_smpPh3 v r
  simp only [Regs.preamble, Prod.mk.injEq] at hmeasured
  obtain ⟨_, hsize, _, hshort, hlong⟩ := hmeasured
  obtain ⟨hmin, hsh, _, hlo, _⟩ := h.calibrated (.inl hp)
  refine .of_calibrated (.inl (hphase.trans hp)) (herr.trans (h.errCode_none (by simp [hp])))
    (by rw [hsize]; exact hmin)
    (by rw [hsize, hshort]; exact hsh) (by rw [hsize, hlong]; exact hlo) ?_ ?_
  · rcases smpPh3_cases v r with ⟨_, e⟩ | ⟨_, _, e⟩ | ⟨_, _, e⟩ <;> rw [e]
    · exact h.no_start_bit
    · exact h.no_start_bit
    · rw [(closeRun_reassembler _ hb).1]
      exact fun h => by cases h
  · rcases smpPh3_cases v r with ⟨_, e⟩ | ⟨_, _, e⟩ | ⟨_, _, e⟩ <;> rw [e]
    · exact h.byte_strobe
    · exact h.byte_strobe
    · exact (closeRun_reassembler _ hb).2

/-- A sample keeps the invariants where the strobes are clear. -/
theorem Inv.smp {r : Regs sw cw} (h : Inv r) (hb : r.bValid = false) (v : Int) : Inv (smp v r) := by
  rcases smp_cases v r with ⟨hp, e⟩ | ⟨hp, e⟩ | ⟨hp, e⟩ | ⟨_, e⟩ <;> rw [e]
  · exact h.smpPh1 hp v
  · exact (h.inPreamble_of_ph2 hp).inv_smpPh2 v
  · exact h.smpPh3 hp hb v
  · exact h

theorem Inv.raise {r : Regs sw cw} (h : Inv r) (h3 : r.phase ≠ .ph3) (hd : r.phase ≠ .done) (e : WfdError) :
    Inv (raise e r) :=
  .of_err rfl (by cases e <;> simp [errorCode]) (h.noPayload h3 hd)

theorem Inv.endCapture {r : Regs sw cw} (h : Inv r) : Inv (endCapture r) := by
  rcases endCapture_cases r with ⟨hp, _, e⟩ | ⟨hp, _, e⟩ | ⟨hp, e⟩ | ⟨hp, e⟩ | ⟨_, e⟩ <;> rw [e]
  · exact h.raise (by simp [hp]) (by simp [hp]) _
  · exact h.raise (by simp [hp]) (by simp [hp]) _
  · exact h.raise (by simp [hp]) (by simp [hp]) _
  · obtain ⟨hmin, hsh, _, hlo, _⟩ := h.calibrated (.inl hp)
    exact .of_calibrated (.inr rfl) (h.errCode_none (by simp [hp])) hmin hsh hlo h.no_start_bit h.byte_strobe
  · exact h

theorem inv_reset : Inv (Regs.reset sw cw) := by
  constructor <;> simp

theorem inv_startFrame (vh vl : BitVec sw) (rev inv verb : Bool) (r : Regs sw cw) :
    Inv (startFrame vh vl rev inv verb r) := by
  constructor <;> simp

/-- Every step keeps the invariants, at every width. -/
theorem Inv.clock {r : Regs sw cw} (h : Inv r) (p : Pins sw) : Inv (clock p r) := by
  rcases clock_cases p r with ⟨_, e⟩ | ⟨_, _, e⟩ | ⟨_, _, _, _, e⟩ | ⟨_, _, _, _, e⟩ | ⟨_, _, _, _, e⟩ |
    ⟨_, _, _, _, e⟩ <;> rw [e]
  · exact inv_reset
  · exact inv_startFrame ..
  · exact (h.clearStrobes.smp rfl _).endCapture
  · exact h.clearStrobes.endCapture
  · exact h.clearStrobes.smp rfl _
  · exact h.clearStrobes

/-- Settles O50: the induction step of R47; the widths play no part in it. -/
theorem invariantsHoldAtEveryWidth : Obligations.InvariantsHoldAtEveryWidth :=
  fun _ _ p _ _ h => h.clock p

/-- Settles O49: a step of the machine is the pseudocode on the pins sampled, listed or free. -/
theorem everyStepKeepsTheInvariants : Obligations.EveryStepKeepsTheInvariants := by
  intro s t h hstep
  rw [step_eq] at hstep
  cases hstep
  exact h.clock _

/-! ## The shortest preamble (41_preamble_detector.md R127) -/

/-- Settles O27: the two outcomes of the stop sample split at 11, and 11 div 11 = 1, 11 div 3 = 3. -/
theorem elevenLowSamplesCalibrate : Obligations.ElevenLowSamplesCalibrate := by
  intro sw cw r _
  obtain ⟨e, sh, lo, _, hsh, hlo, ⟨hmin, heq⟩ | ⟨hlt, heq⟩⟩ := stopPh2_cases r <;> rw [heq]
  · exact ⟨by simp [hmin], by simp [hmin], fun _ => by dsimp only; omega⟩
  · exact ⟨by simp [hlt], by simp [hlt], fun h => by omega⟩

/-! ## The error record (60_exceptions.md R198) -/

/-- Outside `ERR` the record says nothing. -/
theorem ErrRecord.of_not_err {r : Regs sw cw} (h : r.phase ≠ .err) : ErrRecord r := fun hp => absurd hp h

theorem Ph1Record.of_not_ph1 {r : Regs sw cw} (h : r.phase ≠ .ph1) : Ph1Record r := fun hp => absurd hp h

/-- Settles O48: `PHASE` is `IDLE`, where every register that an invariant names is 0 and the two records say
nothing. -/
theorem resetMeetsTheInvariants : Obligations.ResetMeetsTheInvariants :=
  fun _ _ => ⟨inv_reset, .of_not_err (by simp), .of_not_ph1 (by simp)⟩

/-- A new frame meets both records: it is in `PH1`, with `DIAG_SAT` 0. -/
theorem records_startFrame (vh vl : BitVec sw) (rev inv verb : Bool) (r : Regs sw cw) :
    ErrRecord (startFrame vh vl rev inv verb r) ∧ Ph1Record (startFrame vh vl rev inv verb r) :=
  ⟨.of_not_err (by simp), fun _ _ => rfl⟩

/-- Settles O51: the registers after `RST` and `START` do not depend on those before. -/
theorem startAndRstEstablishTheInvariants : Obligations.StartAndRstEstablishTheInvariants := by
  intro sw cw p r h
  rcases clock_cases p r with ⟨_, e⟩ | ⟨_, _, e⟩ | ⟨hrst, hstart, _⟩ | ⟨hrst, hstart, _⟩ | ⟨hrst, hstart, _⟩ |
    ⟨hrst, hstart, _⟩
  · rw [e]
    exact resetMeetsTheInvariants sw cw
  · rw [e]
    exact ⟨inv_startFrame .., records_startFrame ..⟩
  all_goals simp [hrst, hstart] at h

/-- Site a (R198): the stop sample after too few low samples writes what it measured, then raises. -/
theorem InPreamble.errRecord_stopPh2 {r : Regs sw cw} (h : InPreamble r) : ErrRecord (stopPh2 r) := by
  obtain ⟨e, sh, lo, he, hsh, hlo, ⟨_, heq⟩ | ⟨hlt, heq⟩⟩ := stopPh2_cases r
  · exact .of_not_err (by simp [heq])
  · obtain ⟨_, _, _, hrun⟩ := h.measured
    have hzero : sh = 0 := BitVec.eq_of_toNat_eq (by simp [hsh, Nat.div_eq_of_lt hlt])
    rw [heq]
    exact fun _ => ⟨hrun, .inl ⟨rfl, Nat.le_of_lt_succ hlt, he, hzero, hlo⟩⟩

/-- Site d (R198): the low sample that `PRE_SIZE` has no room for finds nothing measured yet. -/
theorem InPreamble.errRecord_smpPh2 {r : Regs sw cw} (h : InPreamble r) (v : Int) : ErrRecord (smpPh2 v r) := by
  rcases smpPh2_cases v r with ⟨_, hmax, e⟩ | ⟨_, _, e⟩ | ⟨_, e⟩ <;> rw [e]
  · obtain ⟨hend, hshort, hlong, hrun⟩ := h.measured
    exact fun _ => ⟨hrun, .inr (.inr (.inr (.inr ⟨rfl, hmax, hend, hshort, hlong⟩)))⟩
  · exact .of_not_err (by simp [h.phase])
  · exact h.errRecord_stopPh2

theorem ErrRecord.smp {r : Regs sw cw} (h : ErrRecord r) (hinv : Inv r) (v : Int) : ErrRecord (smp v r) := by
  rcases smp_cases v r with ⟨hp, e⟩ | ⟨hp, e⟩ | ⟨hp, e⟩ | ⟨_, e⟩ <;> rw [e]
  · rcases smpPh1_cases v r with ⟨_, e⟩ | ⟨_, e⟩ <;> rw [e]
    · exact .of_not_err (by simp [hp])
    · exact (hinv.inPreamble_of_ph1 hp).errRecord_smpPh2 v
  · exact (hinv.inPreamble_of_ph2 hp).errRecord_smpPh2 v
  · exact .of_not_err (by simp [(smpPh3_phase_errCode v r).1, hp])
  · exact h

/-- Sites b and c (R198): what the end of a capture finds in Phase 1 and Phase 2. -/
theorem ErrRecord.endCapture {r : Regs sw cw} (h : ErrRecord r) (hinv : Inv r) (h1 : Ph1Record r) :
    ErrRecord (endCapture r) := by
  rcases endCapture_cases r with ⟨hp, hempty, e⟩ | ⟨hp, hsome, e⟩ | ⟨hp, e⟩ | ⟨_, e⟩ | ⟨_, e⟩ <;> rw [e]
  · obtain ⟨hsize, hend, hshort, hlong, hrun⟩ := hinv.idle_ph1 (.inr hp)
    exact fun _ => ⟨hrun, .inr (.inr (.inr (.inl ⟨rfl, hempty, hsize, hend, hshort, hlong, h1 hp hempty⟩)))⟩
  · obtain ⟨hsize, hend, hshort, hlong, hrun⟩ := hinv.idle_ph1 (.inr hp)
    have hpos : 1 ≤ r.preStart.toNat := by
      have hne : r.preStart.toNat ≠ 0 := fun h0 => hsome (BitVec.eq_of_toNat_eq (by simpa using h0))
      omega
    exact fun _ => ⟨hrun, .inr (.inl ⟨rfl, hpos, hsize, hend, hshort, hlong⟩)⟩
  · obtain ⟨hsize, hend, hshort, hlong, hrun⟩ := hinv.ph2 hp
    exact fun _ => ⟨hrun, .inr (.inr (.inl ⟨rfl, hsize, hend, hshort, hlong⟩))⟩
  · exact .of_not_err (by simp)
  · exact h

/-- Phase 2 leads to Phase 3 and to `ERR` (10_state.md R23). -/
theorem smpPh2_phase (v : Int) {r : Regs sw cw} (hp : r.phase = .ph2) :
    (smpPh2 v r).phase = .ph2 ∨ (smpPh2 v r).phase = .ph3 ∨ (smpPh2 v r).phase = .err := by
  rcases smpPh2_cases v r with ⟨_, _, e⟩ | ⟨_, _, e⟩ | ⟨_, e⟩ <;> rw [e]
  · exact .inr (.inr rfl)
  · exact .inl hp
  · rcases stopPh2_phase_errCode r with ⟨_, h3, _⟩ | ⟨_, herr, _⟩
    · exact .inr (.inl h3)
    · exact .inr (.inr herr)

/-- Phase 2 does not lead back to Phase 1. -/
theorem ph1Record_smpPh2 (v : Int) {r : Regs sw cw} (hp : r.phase = .ph2) : Ph1Record (smpPh2 v r) := by
  rcases smpPh2_phase v hp with h | h | h <;> exact .of_not_ph1 (by simp [h])

/-- A high sample leaves `PRE_START` at 1 or more, so where it is 0 no sample was taken. -/
theorem Ph1Record.smp {r : Regs sw cw} (h : Ph1Record r) (hcw : 0 < cw) (v : Int) : Ph1Record (smp v r) := by
  rcases smp_cases v r with ⟨hp, e⟩ | ⟨hp, e⟩ | ⟨hp, e⟩ | ⟨_, e⟩ <;> rw [e]
  · rcases smpPh1_cases v r with ⟨_, e⟩ | ⟨_, e⟩ <;> rw [e]
    · intro _ hzero
      have hcount := satInc_toNat r.preStart
      have hmax := Nat.one_lt_two_pow hcw.ne'
      have hzero' : (satInc r.preStart).toNat = 0 := by rw [show satInc r.preStart = 0 from hzero]; simp
      omega
    · exact ph1Record_smpPh2 v rfl
  · exact ph1Record_smpPh2 v hp
  · exact .of_not_ph1 (by simp [(smpPh3_phase_errCode v r).1, hp])
  · exact h

theorem Ph1Record.endCapture {r : Regs sw cw} (h : Ph1Record r) : Ph1Record (endCapture r) := by
  rcases endCapture_cases r with ⟨_, _, e⟩ | ⟨_, _, e⟩ | ⟨_, e⟩ | ⟨_, e⟩ | ⟨_, e⟩ <;> rw [e]
  · exact .of_not_ph1 (by simp)
  · exact .of_not_ph1 (by simp)
  · exact .of_not_ph1 (by simp)
  · exact .of_not_ph1 (by simp)
  · exact h

/-- Settles O52: each raise site writes its row of R198, and in `ERR` every sample and end of capture is ignored. The
premises of the `END` half of `SMPE` are what the `SMP` half keeps. -/
theorem errorLeavesTheRecordOfItsSite : Obligations.ErrorLeavesTheRecordOfItsSite := by
  intro sw cw p r ⟨_, hcw⟩ hinv herr h1
  have hinv' : Inv (clearStrobes r) := hinv.clearStrobes
  have herr' : ErrRecord (clearStrobes r) := herr
  have h1' : Ph1Record (clearStrobes r) := h1
  rcases clock_cases p r with ⟨_, e⟩ | ⟨_, _, e⟩ | ⟨_, _, _, _, e⟩ | ⟨_, _, _, _, e⟩ | ⟨_, _, _, _, e⟩ |
    ⟨_, _, _, _, e⟩ <;> rw [e]
  · exact (resetMeetsTheInvariants sw cw).2
  · exact records_startFrame ..
  · have hsmp : Ph1Record (smp (sampleOf p.sData) (clearStrobes r)) := h1'.smp (by omega) _
    exact ⟨(herr'.smp hinv' _).endCapture (hinv'.smp rfl _) hsmp, hsmp.endCapture⟩
  · exact ⟨herr'.endCapture hinv' h1', h1'.endCapture⟩
  · exact ⟨herr'.smp hinv' _, h1'.smp (by omega) _⟩
  · exact ⟨herr', h1'⟩

end Sys2Proof.Machine
end

section
/-! PROOFS. What an instruction leaves on the strobes (10_state.md R43, 44_frame_function.md R188), in Phase 3
(60_exceptions.md R199) and in the registers outside its column of the write table (10_state.md R46). -/

namespace Sys2Proof.Machine

variable {sw cw : Nat}

/-! ## The meanings, by what they do -/

/-- Everything an instruction does: one of the six operations of 30_encoding.md R81. -/
theorem effect_cases (i : Instr) (r : Regs Config.sw Config.cw) :
    (i.operation = .rst ∧ effect i r = Regs.reset _ _) ∨
    (∃ vh vl rev inv verb, i.operation = .start vh vl rev inv verb ∧ effect i r = startFrame vh vl rev inv verb r) ∨
    (∃ d, i.operation = .smpe d ∧ effect i r = endCapture (smp (sampleOf d) r)) ∨
    (i.operation = .endOp ∧ effect i r = endCapture r) ∨
    (∃ d, i.operation = .smp d ∧ effect i r = smp (sampleOf d) r) ∨
    (i.operation = .nop ∧ effect i r = r) := by
  rw [effect_eq_operation]
  cases i with
  | rst => exact .inl ⟨rfl, rfl⟩
  | start vh vl rev inv verb => exact .inr (.inl ⟨vh, vl, rev, inv, verb, rfl, rfl⟩)
  | smpe d => exact .inr (.inr (.inl ⟨d, rfl, rfl⟩))
  | endOp | endPh1 | endPh2 | endPh3 | endX => exact .inr (.inr (.inr (.inl ⟨rfl, rfl⟩)))
  | smp d | smpPh1 d | smpPh2 d | smpPh3 d | smpX d => exact .inr (.inr (.inr (.inr (.inl ⟨d, rfl, rfl⟩))))
  | nop => exact .inr (.inr (.inr (.inr (.inr ⟨rfl, rfl⟩))))

/-! ## The strobes -/

/-- Only a sample of Phase 3 touches the payload registers. -/
theorem payload_smp {r : Regs sw cw} (hp : r.phase ≠ .ph3) (v : Int) : (smp v r).payload = r.payload := by
  rcases smp_cases v r with ⟨_, e⟩ | ⟨_, e⟩ | ⟨h3, _⟩ | ⟨_, e⟩
  · rw [e, payload_smpPh1]
  · rw [e, payload_smpPh2]
  · exact absurd h3 hp
  · rw [e]

/-- The strobes and the values they publish are payload registers. -/
theorem outputs_of_payload {r r' : Regs sw cw} (h : r'.payload = r.payload) :
    r'.bValid = r.bValid ∧ r'.bData = r.bData ∧ r'.symValid = r.symValid ∧ r'.sym = r.sym := by
  simp only [Regs.payload, Prod.mk.injEq] at h
  obtain ⟨_, _, _, _, hb, hbd, hsym, hs⟩ := h
  exact ⟨hb, hbd, hsym, hs⟩

/-- What is on the taps after a sample: a byte only with a symbol, a symbol only where a sample of Phase 3 ended a
run. -/
theorem smp_outputs {r : Regs sw cw} (hb : r.bValid = false) (hs : r.symValid = false) (v : Int) :
    ((smp v r).bValid = true → (smp v r).symValid = true) ∧
    ((smp v r).symValid = true → r.phase = .ph3 ∧ v ≤ r.vhigh.toInt ∧ r.run ≠ 0) := by
  by_cases hp : r.phase = .ph3
  · rw [smp_of_ph3 v r hp]
    rcases smpPh3_cases v r with ⟨_, e⟩ | ⟨_, _, e⟩ | ⟨hv, hrun, e⟩ <;> rw [e]
    · simp [hb, hs]
    · simp [hb, hs]
    · exact ⟨fun h => ((closeRun_reassembler _ hb).2 h).1, fun _ => ⟨hp, hv, hrun⟩⟩
  · obtain ⟨hb', _, hs', _⟩ := outputs_of_payload (payload_smp hp v)
    simp [hb', hs', hb, hs]

/-- What is on the taps after an instruction: the same as after its sample half, and nothing if it has none. -/
theorem effect_outputs (i : Instr) {r : Regs Config.sw Config.cw} (hb : r.bValid = false) (hs : r.symValid = false) :
    ((effect i r).bValid = true → (effect i r).symValid = true) ∧
    ((effect i r).symValid = true → r.phase = .ph3 ∧ r.run ≠ 0 ∧
      ∃ d, (i.operation = .smp d ∨ i.operation = .smpe d) ∧ sampleOf d ≤ r.vhigh.toInt) := by
  rcases effect_cases i r with ⟨_, e⟩ | ⟨vh, vl, rev, inv, verb, _, e⟩ | ⟨d, hi, e⟩ | ⟨_, e⟩ | ⟨d, hi, e⟩ |
    ⟨_, e⟩ <;> rw [e]
  · simp
  · simp
  · obtain ⟨hb', _, hs', _⟩ := outputs_of_payload (payload_endCapture (smp (sampleOf d) r))
    obtain ⟨hbyte, hsym⟩ := smp_outputs hb hs (sampleOf d)
    rw [hb', hs']
    refine ⟨hbyte, fun h => ?_⟩
    obtain ⟨hp, hv, hrun⟩ := hsym h
    exact ⟨hp, hrun, d, .inr hi, hv⟩
  · obtain ⟨hb', _, hs', _⟩ := outputs_of_payload (payload_endCapture r)
    simp [hb', hs', hb, hs]
  · obtain ⟨hbyte, hsym⟩ := smp_outputs hb hs (sampleOf d)
    refine ⟨hbyte, fun h => ?_⟩
    obtain ⟨hp, hv, hrun⟩ := hsym h
    exact ⟨hp, hrun, d, .inl hi, hv⟩
  · simp [hb, hs]

/-- Settles O11: the meaning starts from the cleared strobes, and the `END` half of `SMPE` does not touch them. -/
theorem everyStepFirstClearsTheStrobes : Obligations.EveryStepFirstClearsTheStrobes := by
  intro i s b c
  obtain ⟨hbyte, hsym⟩ := effect_outputs i (r := clearStrobes s.toRegs) rfl rfl
  refine ⟨rfl, _, exec_eq_operate i s, fun h => (hsym (hbyte h)).1, fun h => (hsym h).1, ?smpe⟩
  case smpe =>
    rintro d a rfl ha
    rw [(exec_next_iff _ s a).1 ha]
    obtain ⟨hb, _, hs, _⟩ := outputs_of_payload (payload_endCapture (smp (sampleOf d) (clearStrobes s.toRegs)))
    exact ⟨hb, hs⟩

/-! ## Phase 3 (60_exceptions.md R199) -/

/-- No instruction leads from `PH3` to `ERR`, and only `RST` and `START` write `ERR_CODE` there. -/
theorem effect_phase_of_ph3 (i : Instr) {r : Regs Config.sw Config.cw} (hp : r.phase = .ph3) :
    (effect i r).phase ≠ .err ∧ ((effect i r).errCode = r.errCode ∨ (effect i r).errCode = .none) := by
  have hsmp (v : Int) : (smp v r).phase = .ph3 ∧ (smp v r).errCode = r.errCode := by
    rw [smp_of_ph3 v r hp, ← hp]
    exact smpPh3_phase_errCode v r
  rcases effect_cases i r with ⟨_, e⟩ | ⟨vh, vl, rev, inv, verb, _, e⟩ | ⟨d, _, e⟩ | ⟨_, e⟩ | ⟨d, _, e⟩ |
    ⟨_, e⟩ <;> rw [e]
  · simp
  · simp
  · obtain ⟨hphase, herr⟩ := hsmp (sampleOf d)
    simp [endCapture_of_ph3 _ hphase, endPh3, herr]
  · simp [endCapture_of_ph3 _ hp, endPh3]
  · obtain ⟨hphase, herr⟩ := hsmp (sampleOf d)
    simp [hphase, herr]
  · simp [hp]

/-- Settles O40: the default clear leaves `PHASE` and `ERR_CODE`, and no meaning raises from `PH3`. -/
theorem noErrorIsRaisedInPhase3 : Obligations.NoErrorIsRaisedInPhase3 := by
  intro i s t hp h
  rw [(exec_next_iff i s t).1 h]
  exact effect_phase_of_ph3 i (r := clearStrobes s.toRegs) hp

/-- Settles O41: a symbol comes from a sample of Phase 3, where nothing raises. -/
theorem outputComesOnlyFromPhase3Samples : Obligations.OutputComesOnlyFromPhase3Samples := by
  intro i s t h
  rw [(exec_next_iff i s t).1 h]
  obtain ⟨hbyte, hsym⟩ := effect_outputs i (r := clearStrobes s.toRegs) rfl rfl
  refine ⟨hbyte, fun h => ?_⟩
  obtain ⟨hp, hrun, hd⟩ := hsym h
  exact ⟨hp, (effect_phase_of_ph3 i (r := clearStrobes s.toRegs) hp).1, hrun, hd⟩

/-! ## The write table (10_state.md R46) -/

/-- Two register contents agree on every register number outside a list. -/
def SameOutside (ks : List (Fin 20)) (r r' : Regs sw cw) : Prop := ∀ k, k ∉ ks → r'.x k = r.x k

theorem SameOutside.rfl {ks : List (Fin 20)} {r : Regs sw cw} : SameOutside ks r r := fun _ _ => Eq.refl _

theorem SameOutside.trans {ks : List (Fin 20)} {r r' r'' : Regs sw cw} (h : SameOutside ks r r')
    (h' : SameOutside ks r' r'') : SameOutside ks r r'' := fun k hk => (h' k hk).trans (h k hk)

theorem SameOutside.mono {ks ks' : List (Fin 20)} {r r' : Regs sw cw} (h : SameOutside ks r r') (hsub : ks ⊆ ks') :
    SameOutside ks' r r' := fun k hk => h k fun hmem => hk (hsub hmem)

/-- The column of the default clear. -/
theorem sameOutside_strobes (r : Regs sw cw) (b c : Bool) :
    SameOutside [16, 18] r { r with bValid := b, symValid := c } := by
  intro k hk
  fin_cases k <;> simp_all [Regs.x]

/-- The column of a sample in `PH1`: whatever is written to its registers, no other changes. -/
theorem sameOutside_ph1 (r : Regs sw cw) (p : Phase) (e : ErrCode) (start size en sh lo run : BitVec cw) (sat : Bool) :
    SameOutside (smpWrites .ph1) r
      { r with
        phase := p, errCode := e, preStart := start, preSize := size, preEnd := en, short := sh, long := lo, run := run
        diagSat := sat } := by
  intro k hk
  fin_cases k <;> simp_all [Regs.x, smpWrites]

/-- The column of a sample in `PH2`. -/
theorem sameOutside_ph2 (r : Regs sw cw) (p : Phase) (e : ErrCode) (size en sh lo run : BitVec cw) (sat : Bool) :
    SameOutside (smpWrites .ph2) r
      { r with
        phase := p, errCode := e, preSize := size, preEnd := en, short := sh, long := lo, run := run
        diagSat := sat } := by
  intro k hk
  fin_cases k <;> simp_all [Regs.x, smpWrites]

/-- The column of a sample in `PH3`. -/
theorem sameOutside_ph3 (r : Regs sw cw) (run bytes : BitVec cw) (seen : Bool) (acc : BitVec 8) (cnt : BitVec 3)
    (sat b : Bool) (data : BitVec 8) (s sym : Bool) :
    SameOutside (smpWrites .ph3) r
      { r with
        run := run, startSeen := seen, acc := acc, bitcnt := cnt, byteCount := bytes, diagSat := sat
        bValid := b, bData := data, symValid := s, sym := sym } := by
  intro k hk
  fin_cases k <;> simp_all [Regs.x, smpWrites]

/-- The column of an end of capture that raises. -/
theorem sameOutside_raise (r : Regs sw cw) (e : WfdError) : SameOutside [0, 1] r (raise e r) := by
  intro k hk
  fin_cases k <;> simp_all [Regs.x]

/-- The column of an end of capture that completes the frame, and of the way into Phase 2. -/
theorem sameOutside_setPhase (r : Regs sw cw) (p : Phase) : SameOutside [0] r (setPhase p r) := by
  intro k hk
  fin_cases k <;> simp_all [Regs.x]

theorem sameOutside_smpPh2 (v : Int) (r : Regs sw cw) : SameOutside (smpWrites .ph2) r (smpPh2 v r) := by
  rcases smpPh2_cases v r with ⟨_, _, e⟩ | ⟨_, _, e⟩ | ⟨_, e⟩ <;> rw [e]
  · exact sameOutside_ph2 r _ _ _ _ _ _ _ _
  · exact sameOutside_ph2 r _ _ _ _ _ _ _ _
  · obtain ⟨_, _, _, _, _, _, ⟨_, e⟩ | ⟨_, e⟩⟩ := stopPh2_cases r <;> rw [e]
    · exact sameOutside_ph2 r _ _ _ _ _ _ _ _
    · exact sameOutside_ph2 r _ _ _ _ _ _ _ _

theorem sameOutside_smpPh1 (v : Int) (r : Regs sw cw) : SameOutside (smpWrites .ph1) r (smpPh1 v r) := by
  rcases smpPh1_cases v r with ⟨_, e⟩ | ⟨_, e⟩ <;> rw [e]
  · exact sameOutside_ph1 r _ _ _ _ _ _ _ _ _
  · exact ((sameOutside_setPhase r .ph2).mono (by decide)).trans ((sameOutside_smpPh2 v _).mono (by decide))

theorem sameOutside_smpPh3 (v : Int) (r : Regs sw cw) : SameOutside (smpWrites .ph3) r (smpPh3 v r) := by
  rcases smpPh3_cases v r with ⟨_, e⟩ | ⟨_, _, e⟩ | ⟨_, _, e⟩ <;> rw [e]
  · exact sameOutside_ph3 r _ _ _ _ _ _ _ _ _ _
  · exact .rfl
  · rcases closeRun_cases (!(xor (decide (5 * r.run.toNat < 3 * r.long.toNat)) r.ctrlRev)) r with
      ⟨_, e⟩ | ⟨_, _, e⟩ | ⟨_, _, e⟩ <;> rw [e]
    · exact sameOutside_ph3 r _ _ _ _ _ _ _ _ _ _
    · exact sameOutside_ph3 r _ _ _ _ _ _ _ _ _ _
    · exact sameOutside_ph3 r _ _ _ _ _ _ _ _ _ _

/-- A sample stays in its phase's column. -/
theorem sameOutside_smp (v : Int) (r : Regs sw cw) : SameOutside (smpWrites r.phase) r (smp v r) := by
  rcases smp_cases v r with ⟨hp, e⟩ | ⟨hp, e⟩ | ⟨hp, e⟩ | ⟨_, e⟩ <;> rw [e]
  · rw [hp]; exact sameOutside_smpPh1 v r
  · rw [hp]; exact sameOutside_smpPh2 v r
  · rw [hp]; exact sameOutside_smpPh3 v r
  · exact .rfl

/-- An end of capture stays in its phase's column. -/
theorem sameOutside_endCapture (r : Regs sw cw) : SameOutside (endWrites r.phase) r (endCapture r) := by
  rcases endCapture_cases r with ⟨hp, _, e⟩ | ⟨hp, _, e⟩ | ⟨hp, e⟩ | ⟨hp, e⟩ | ⟨_, e⟩ <;> rw [e]
  · rw [hp]; exact sameOutside_raise r _
  · rw [hp]; exact sameOutside_raise r _
  · rw [hp]; exact sameOutside_raise r _
  · rw [hp]; exact sameOutside_setPhase r _
  · exact .rfl

/-- The `END` half of `SMPE` writes `PHASE` and `ERR_CODE` at most, which in Phases 1 and 2 the sample may write
too; from every other phase it finds the phase that the step began in. -/
theorem endWrites_after_smp (v : Int) (r : Regs sw cw) :
    endWrites (smp v r).phase ⊆ endWrites r.phase ++ smpWrites r.phase := by
  have hany (p : Phase) : endWrites p ⊆ [0, 1] := by cases p <;> decide
  rcases smp_cases v r with ⟨hp, _⟩ | ⟨hp, _⟩ | ⟨hp, e⟩ | ⟨_, e⟩
  · rw [hp]; exact List.Subset.trans (hany _) (by decide)
  · rw [hp]; exact List.Subset.trans (hany _) (by decide)
  · rw [e, (smpPh3_phase_errCode v r).1]; exact List.subset_append_left _ _
  · rw [e]; exact List.subset_append_left _ _

/-- An instruction stays in its column, the strobes aside. -/
theorem sameOutside_effect (i : Instr) (r : Regs Config.sw Config.cw) :
    SameOutside (writes i r.phase) r (effect i r) := by
  rcases effect_cases i r with ⟨hi, e⟩ | ⟨vh, vl, rev, inv, verb, hi, e⟩ | ⟨d, hi, e⟩ | ⟨hi, e⟩ | ⟨d, hi, e⟩ |
    ⟨hi, e⟩ <;> simp only [writes, hi, e]
  · exact fun k hk => absurd (List.mem_finRange k) hk
  · exact fun k hk => absurd (List.mem_finRange k) hk
  · have hsmp : SameOutside (endWrites r.phase ++ smpWrites r.phase) r (smp (sampleOf d) r) :=
      (sameOutside_smp _ r).mono (List.subset_append_right _ _)
    have hend := (sameOutside_endCapture (smp (sampleOf d) r)).mono (endWrites_after_smp _ r)
    rw [List.append_assoc]
    exact (hsmp.trans hend).mono (List.subset_append_right _ _)
  · exact (sameOutside_endCapture r).mono (List.subset_append_right _ _)
  · exact (sameOutside_smp _ r).mono (List.subset_append_right _ _)
  · exact .rfl

/-- The default clear's column is part of every instruction's. -/
theorem strobes_subset_writes (i : Instr) (p : Phase) : [16, 18] ⊆ writes i p := by
  cases i with
  | rst | start => exact fun k _ => List.mem_finRange k
  | smpe => exact fun k hk => List.mem_append_left _ (List.mem_append_left _ hk)
  | _ => exact fun k hk => List.mem_append_left _ hk

/-- Settles O43: the default clear and the meaning each stay in the instruction's column, and no meaning touches
what the agents present. -/
theorem registersOutsideTheWriteTableAreUnchanged : Obligations.RegistersOutsideTheWriteTableAreUnchanged := by
  intro i s t h
  rw [(exec_next_iff i s t).1 h]
  have hclear : SameOutside (writes i s.phase) s.toRegs (clearStrobes s.toRegs) :=
    (sameOutside_strobes s.toRegs false false).mono (strobes_subset_writes i s.phase)
  exact ⟨hclear.trans (sameOutside_effect i (clearStrobes s.toRegs)), rfl, rfl⟩

end Sys2Proof.Machine
end

section
/-! PROOFS. The statements of 42_pulse_classifier.md and 43_frame_reassembler.md that are left: the gap sample, the
payload symbol, the threshold (R141 to R145) and the packet that a symbol sequence becomes (R168); and error entry
(60_exceptions.md R197). -/

namespace Sys2Proof.Machine

variable {sw cw : Nat}

/-! ## Samples of Phase 3 -/

/-- A sample at or below `VHIGH` with no run open does nothing (42_pulse_classifier.md R141 corner (a)). -/
theorem smpPh3_of_gap {v : Int} {r : Regs sw cw} (hv : v ≤ r.vhigh.toInt) (hrun : r.run = 0) : smpPh3 v r = r := by
  rcases smpPh3_cases v r with ⟨hhigh, _⟩ | ⟨_, _, e⟩ | ⟨_, hopen, _⟩
  · omega
  · exact e
  · exact absurd hrun hopen

/-- Settles O29: only the default clear remains. -/
theorem phase3GapSampleWithoutARunDoesNothing : Obligations.Phase3GapSampleWithoutARunDoesNothing := by
  intro i d s hi hp hv hrun
  have hop : i.operation = .smp d := by rcases hi with rfl | rfl <;> rfl
  exact exec_sample_of_ph3 hop hp (smpPh3_of_gap (r := clearStrobes s.toRegs) hv hrun)

/-- Settles O31: the sample ends the run, and with fewer than seven symbols in `ACC` the run's symbol is shifted in.
-/
theorem payloadSymbolIsShiftedIn : Obligations.PayloadSymbolIsShiftedIn := by
  intro i d s hi hp hv hrun hstart hroom
  have hop : i.operation = .smp d := by rcases hi with rfl | rfl <;> rfl
  have hend := smpPh3_of_run_end (r := clearStrobes s.toRegs) hv hrun
  exact ⟨_, shiftIn s.acc _, rfl, shiftIn_toNat s.acc _,
    exec_sample_of_ph3 hop hp (hend.trans (closeRun_of_payload _ _ hstart hroom))⟩

/-! ## The threshold (42_pulse_classifier.md R144, R145) -/

/-- Settles O33: the comparator's integer inequality, solved for the run. -/
theorem shortestLongRunIsCeilThreeFifths : Obligations.ShortestLongRunIsCeilThreeFifths := by
  intro long hlong
  simp only [isShort_eq_false_iff, isShort_eq_true_iff]
  exact ⟨fun run => by omega, fun hdvd => by omega, fun hdvd => by omega⟩

/-- Settles O34: where `CMAX` cuts the run off, it and the true length are both long, since `3 * LONG ≤ CMAX`. -/
theorem saturatedRunKeepsItsSymbol : Obligations.SaturatedRunKeepsItsSymbol := by
  intro cw n long hlong
  rcases Nat.le_total n (2 ^ cw - 1) with h | h
  · rw [Nat.min_eq_left h]
  · rw [Nat.min_eq_right h, (isShort_eq_false_iff _ _).2 (by omega), (isShort_eq_false_iff _ _).2 (by omega)]

/-! ## Error entry (60_exceptions.md R197) -/

/-- Settles O38: `raise` is one record update of two registers, which the pins show. -/
theorem raiseWritesOnlyPhaseAndErrCode : Obligations.RaiseWritesOnlyPhaseAndErrCode :=
  fun _ _ _ => ⟨rfl, rfl, rfl, fun _ => ⟨rfl, rfl⟩, rfl, rfl, rfl⟩

/-! ## Chunks of eight (43_frame_reassembler.md R168) -/

/-- The packed chunks of 8 of the symbols after the START bit, the incomplete one dropped. -/
def packedChunks (bits : List Bool) (inv : Bool) : List Byte :=
  (List.range (bits.length / 8)).map fun k => pack (chunkValue bits (8 * k)) inv

theorem refPacket_eq (bits : List Bool) (inv : Bool) : refPacket bits inv = packedChunks bits.tail inv := rfl

/-- Bit `7 - t` of a chunk's value is its symbol `t` (44_frame_function.md R180). -/
theorem chunkValue_getLsbD (l : List Bool) (at_ : Nat) {k : Nat} (hk : k < 8) :
    (chunkValue l at_).getLsbD k = l.getD (at_ + (7 - k)) false := by
  rw [chunkValue, BitVec.getLsbD_ofBoolListBE]
  interval_cases k <;> rfl

/-- A complete chunk does not see what comes after it. -/
theorem chunkValue_append (l m : List Bool) {at_ : Nat} (h : at_ + 8 ≤ l.length) :
    chunkValue (l ++ m) at_ = chunkValue l at_ := by
  apply BitVec.eq_of_getLsbD_eq
  intro k hk
  rw [chunkValue_getLsbD _ _ hk, chunkValue_getLsbD _ _ hk, List.getD_append _ _ _ _ (by omega)]

/-- One more symbol completes a chunk or does not. -/
theorem packedChunks_concat (l : List Bool) (b inv : Bool) :
    packedChunks (l ++ [b]) inv = packedChunks l inv ++
      (if l.length % 8 = 7 then [pack (chunkValue (l ++ [b]) (l.length - 7)) inv] else []) := by
  have hold : (List.range (l.length / 8)).map (fun k => pack (chunkValue (l ++ [b]) (8 * k)) inv) =
      packedChunks l inv := by
    refine List.map_congr_left fun k hk => ?_
    have hk' := List.mem_range.1 hk
    rw [chunkValue_append l [b] (by omega)]
  by_cases h : l.length % 8 = 7
  · have hlen : (l ++ [b]).length / 8 = l.length / 8 + 1 := by simp; omega
    have hat : 8 * (l.length / 8) = l.length - 7 := by omega
    rw [packedChunks, hlen, List.range_succ, List.map_append, hold, if_pos h, ← hat]
    rfl
  · have hlen : (l ++ [b]).length / 8 = l.length / 8 := by simp; omega
    rw [packedChunks, hlen, hold, if_neg h, List.append_nil]

/-- The bits of the accumulator after a symbol (43_frame_reassembler.md R162). -/
theorem shiftIn_getLsbD (acc : Byte) (b : Bool) {k : Nat} (hk : k < 8) :
    (shiftIn acc b).getLsbD k = if k = 0 then b else acc.getLsbD (k - 1) := by
  rw [shiftIn, BitVec.getLsbD_append]
  by_cases h : k = 0
  · simp [h]
  · have hlow : ¬ k < 1 := by omega
    have hhigh : k - 1 < 7 := by omega
    simp [h, hhigh]

/-- Shifted in one after another, the last symbols stand in the low bits of the accumulator, the newest at bit 0. -/
theorem foldl_shiftIn_getLsbD (acc : Byte) (l : List Bool) {k : Nat} (hk : k < 8) (hl : k < l.length) :
    (l.foldl shiftIn acc).getLsbD k = l.getD (l.length - 1 - k) false := by
  induction l using List.reverseRecOn generalizing k with
  | nil => simp at hl
  | append_singleton l b ih =>
    rw [List.foldl_append, List.foldl_cons, List.foldl_nil, shiftIn_getLsbD _ _ hk, List.length_append,
      List.length_singleton]
    rw [List.length_append, List.length_singleton] at hl
    by_cases h : k = 0
    · simp [h]
    · rw [if_neg h, ih (by omega) (by omega), List.getD_append _ _ _ _ (by omega)]
      congr 1
      omega

/-- After eight or more symbols the accumulator holds the last eight, whatever it held before. -/
theorem foldl_shiftIn_eq_chunkValue (acc : Byte) (l : List Bool) (h : 8 ≤ l.length) :
    l.foldl shiftIn acc = chunkValue l (l.length - 8) := by
  apply BitVec.eq_of_getLsbD_eq
  intro k hk
  rw [foldl_shiftIn_getLsbD acc l hk (by omega), chunkValue_getLsbD _ _ hk]
  congr 1
  omega

/-! ## The reassembler after a symbol sequence (43_frame_reassembler.md R160 to R164, R168) -/

/-- The reassembler has received the symbols `bits` since `START`; `acc` is what `ACC` held then. -/
structure Received (acc : Byte) (bits : List Bool) (r : Regs sw cw) : Prop where
  startSeen : r.startSeen = !bits.isEmpty
  acc_eq : r.acc = bits.tail.foldl shiftIn acc
  bitcnt : r.bitcnt.toNat = bits.tail.length % 8
  byteCount : r.byteCount.toNat = min (bits.tail.length / 8) (2 ^ cw - 1)
  saturated : 2 ^ cw - 1 < bits.tail.length / 8 → r.diagSat = true

/-- What the step of a symbol adds to the packet: the byte on the tap, if there is one. -/
def Regs.emitted (r : Regs sw cw) : List Byte := if r.bValid then [r.bData] else []

/-- The first symbol is dropped. -/
theorem Received.push_first {acc : Byte} {r : Regs sw cw} (h : Received acc [] r) (hb : r.bValid = false) (b : Bool) :
    Received acc [b] (pushSymbol b r) ∧ (pushSymbol b r).emitted = [] := by
  rcases pushSymbol_cases b r with ⟨_, e⟩ | ⟨hs, _⟩ | ⟨hs, _⟩
  · rw [e]
    exact ⟨⟨rfl, h.acc_eq, h.bitcnt, h.byteCount, h.saturated⟩, if_neg (by simp [hb])⟩
  all_goals
    rw [h.startSeen] at hs
    cases hs

/-- A later symbol is shifted in, and with the eighth of its chunk the byte leaves. -/
theorem Received.push_later {acc : Byte} {b0 : Bool} {l : List Bool} {r : Regs sw cw} (h : Received acc (b0 :: l) r)
    (hb : r.bValid = false) (b : Bool) :
    Received acc (b0 :: (l ++ [b])) (pushSymbol b r) ∧
      (pushSymbol b r).emitted =
        if l.length % 8 = 7 then [pack (chunkValue (l ++ [b]) (l.length - 7)) r.ctrlInv] else [] := by
  obtain ⟨hseen, hacc, hcnt, hbytes, hsat⟩ := h
  simp only [List.tail_cons] at hacc hcnt hbytes hsat
  have hacc' : shiftIn r.acc b = (l ++ [b]).foldl shiftIn acc := by rw [List.foldl_append, ← hacc]; rfl
  have hlen : (l ++ [b]).length = l.length + 1 := by simp
  have hseven : r.bitcnt = 7 ↔ l.length % 8 = 7 := by rw [← BitVec.toNat_inj, hcnt]; rfl
  rcases pushSymbol_cases b r with ⟨hs, _⟩ | ⟨hs, h7, e⟩ | ⟨hs, h7, e⟩
  · rw [hseen] at hs
    cases hs
  · have h7' := mt hseven.2 h7
    rw [e, if_neg h7']
    have hchunks : (l.length + 1) / 8 = l.length / 8 := by omega
    refine ⟨⟨hs, hacc', ?_, ?_, ?_⟩, if_neg (by simp [hb])⟩
    · rw [List.tail_cons, hlen, BitVec.toNat_add, hcnt]
      simp
    · rw [List.tail_cons, hlen, hchunks, hbytes]
    · rw [List.tail_cons, hlen, hchunks]
      exact hsat
  · have h7' := hseven.1 h7
    rw [e, if_pos h7']
    refine ⟨⟨hs, hacc', ?_, ?_, ?_⟩, ?_⟩
    · rw [List.tail_cons, hlen]
      show 0 = _
      omega
    · rw [List.tail_cons, hlen]
      show (satInc r.byteCount).toNat = _
      rw [satInc_toNat, hbytes]
      omega
    · rw [List.tail_cons, hlen]
      intro hover
      have hfull : r.byteCount = cmax cw := (eq_cmax_iff _).2 (by omega)
      show (r.diagSat || decide (r.byteCount = cmax cw)) = true
      simp [hfull]
    · have hat : l.length + 1 - 8 = l.length - 7 := by omega
      show [pack (shiftIn r.acc b) r.ctrlInv] = _
      rw [hacc', foldl_shiftIn_eq_chunkValue acc (l ++ [b]) (by omega), hlen, hat]

/-- One symbol pushed: the bytes emitted so far stay the packet of the symbols so far. -/
theorem Received.push {acc : Byte} {bits : List Bool} {r : Regs sw cw} (h : Received acc bits r) (hb : r.bValid = false)
    (b : Bool) :
    Received acc (bits ++ [b]) (pushSymbol b r) ∧
      refPacket (bits ++ [b]) r.ctrlInv = refPacket bits r.ctrlInv ++ (pushSymbol b r).emitted := by
  cases bits with
  | nil =>
    obtain ⟨hrec, hnone⟩ := h.push_first hb b
    exact ⟨hrec, by rw [hnone, List.append_nil]; rfl⟩
  | cons b0 l =>
    obtain ⟨hrec, hbyte⟩ := h.push_later hb b
    exact ⟨hrec, by rw [hbyte, refPacket_eq, refPacket_eq]; exact packedChunks_concat l b r.ctrlInv⟩

/-- A symbol leaves the configuration and so the bit order. -/
theorem ctrlInv_pushSymbol (b : Bool) (r : Regs sw cw) : (pushSymbol b r).ctrlInv = r.ctrlInv := by
  rw [Regs.ctrlInv, ctrl_eq_of_config (config_pushSymbol b r), Regs.ctrlInv]

/-- The default clear touches no register that the reassembler reads. -/
theorem Received.clearStrobes {acc : Byte} {bits : List Bool} {r : Regs sw cw} (h : Received acc bits r) :
    Received acc bits (clearStrobes r) := ⟨h.startSeen, h.acc_eq, h.bitcnt, h.byteCount, h.saturated⟩

theorem pushedBytes_cons (b : Bool) (syms : List Bool) (r : Regs sw cw) :
    pushedBytes (b :: syms) r =
      (pushSymbol b (clearStrobes r)).emitted ++ pushedBytes syms (pushSymbol b (clearStrobes r)) := by
  rw [pushedBytes, Regs.emitted]
  split <;> rfl

/-- Any symbols pushed, by induction on their list: the bytes emitted before and those emitted now are the packet of
all symbols. -/
theorem Received.pushAll {acc : Byte} {bits : List Bool} {r : Regs sw cw} (h : Received acc bits r) (syms : List Bool) :
    Received acc (bits ++ syms) (pushAll syms r) ∧
      refPacket (bits ++ syms) r.ctrlInv = refPacket bits r.ctrlInv ++ pushedBytes syms r := by
  induction syms generalizing bits r with
  | nil => simpa [Machine.pushAll, pushedBytes] using h
  | cons b syms ih =>
    obtain ⟨hrec, hbyte⟩ := h.clearStrobes.push rfl b
    obtain ⟨hall, hbytes⟩ := ih hrec
    rw [ctrlInv_pushSymbol] at hbytes
    have hassoc : bits ++ b :: syms = bits ++ [b] ++ syms := by simp
    rw [hassoc, pushedBytes_cons, ← List.append_assoc]
    exact ⟨hall, hbytes.trans (congrArg (· ++ _) hbyte)⟩

/-- Settles O37: a reassembler as `START` leaves it has received no symbol. -/
theorem symbolsBecomeThePacket : Obligations.SymbolsBecomeThePacket := by
  intro sw cw r syms _ hseen hcnt hbytes
  have hempty : Received r.acc [] r := ⟨hseen, rfl, by simp [hcnt], by simp [hbytes], by simp⟩
  obtain ⟨hall, hpacket⟩ := hempty.pushAll syms
  refine ⟨hpacket.symm, ?_⟩
  simpa using hall.byteCount

end Sys2Proof.Machine
end

section
/-! PROOFS. Sequences of steps: what follows a `START` (44_frame_function.md R185 to R187), steps without effect
(20_memory.md R70) and how a frame ends (44_frame_function.md R181, R182, R186). -/

namespace Sys2Proof.Machine

variable {sw cw : Nat}

/-! ## Runs, step by step -/

/-- The symbol on the tap, if there is one. -/
def Regs.published (r : Regs sw cw) : List Bool := if r.symValid then [r.sym] else []

theorem runPins_cons (p : Pins sw) (ps : List (Pins sw)) (r : Regs sw cw) :
    runPins (p :: ps) r = runPins ps (clock p r) := rfl

theorem symbolsOf_cons (p : Pins sw) (ps : List (Pins sw)) (r : Regs sw cw) :
    symbolsOf (p :: ps) r = (clock p r).published ++ symbolsOf ps (clock p r) := by
  rw [symbolsOf, Regs.published]
  split <;> rfl

theorem bytesOf_cons (p : Pins sw) (ps : List (Pins sw)) (r : Regs sw cw) :
    bytesOf (p :: ps) r = (clock p r).emitted ++ bytesOf ps (clock p r) := by
  rw [bytesOf, Regs.emitted]
  split <;> rfl

theorem runPins_append (ps qs : List (Pins sw)) (r : Regs sw cw) :
    runPins (ps ++ qs) r = runPins qs (runPins ps r) := by
  induction ps generalizing r with
  | nil => rfl
  | cons p ps ih => exact ih (clock p r)

theorem symbolsOf_append (ps qs : List (Pins sw)) (r : Regs sw cw) :
    symbolsOf (ps ++ qs) r = symbolsOf ps r ++ symbolsOf qs (runPins ps r) := by
  induction ps generalizing r with
  | nil => rfl
  | cons p ps ih => rw [List.cons_append, symbolsOf_cons, ih, symbolsOf_cons, runPins_cons, List.append_assoc]

theorem bytesOf_append (ps qs : List (Pins sw)) (r : Regs sw cw) :
    bytesOf (ps ++ qs) r = bytesOf ps r ++ bytesOf qs (runPins ps r) := by
  induction ps generalizing r with
  | nil => rfl
  | cons p ps ih => rw [List.cons_append, bytesOf_cons, ih, bytesOf_cons, runPins_cons, List.append_assoc]

/-! ## What follows a `START` (44_frame_function.md R185, R187) -/

/-- `START` writes every register, and `RST` where it wins over it. -/
theorem clock_of_start {p : Pins sw} (hstart : p.start = true) (r r' : Regs sw cw) : clock p r = clock p r' := by
  cases hrst : p.rst <;> simp [clock, hrst, hstart, startFrame]

/-- Settles O55: the first step makes the registers equal. -/
theorem nothingBeforeStartMatters : Obligations.NothingBeforeStartMatters := by
  intro sw cw p ps r r' hstart
  have hfirst := clock_of_start hstart r r'
  simp only [runPins_cons, bytesOf_cons, symbolsOf_cons, hfirst, and_self]

/-! ## Steps without effect (20_memory.md R70 item 3) -/

/-- A step without effect is the default clear (30_encoding.md R86). -/
theorem clock_of_withoutEffect {p : Pins sw} {r : Regs sw cw} (h : withoutEffect p r = true) :
    clock p r = clearStrobes r := by
  simp only [withoutEffect, Bool.and_eq_true, Bool.or_eq_true, Bool.not_eq_true'] at h
  obtain ⟨⟨hrst, hstart⟩, hidle⟩ := h
  have hsmp (hs : scanning r.phase = false) (v : Int) : smp v (clearStrobes r) = clearStrobes r :=
    smp_of_not_scanning v (clearStrobes r) hs
  have hend (hs : scanning r.phase = false) : endCapture (clearStrobes r) = clearStrobes r :=
    endCapture_of_not_scanning (clearStrobes r) hs
  rcases hidle with ⟨hend', hvalid⟩ | hs
  · simp [clock, hrst, hstart, hend', hvalid]
  · simp [clock, hrst, hstart, hsmp hs, hend hs]

/-- Steps do not see the strobes left before them (10_state.md R43). -/
theorem symbolsOf_clearStrobes (ps : List (Pins sw)) (r : Regs sw cw) :
    symbolsOf ps (clearStrobes r) = symbolsOf ps r := by
  cases ps with
  | nil => rfl
  | cons p ps => rw [symbolsOf_cons, clock_clearStrobes, symbolsOf_cons]

theorem bytesOf_clearStrobes (ps : List (Pins sw)) (r : Regs sw cw) : bytesOf ps (clearStrobes r) = bytesOf ps r := by
  cases ps with
  | nil => rfl
  | cons p ps => rw [bytesOf_cons, clock_clearStrobes, bytesOf_cons]

theorem clearStrobes_runPins_clearStrobes (ps : List (Pins sw)) (r : Regs sw cw) :
    clearStrobes (runPins ps (clearStrobes r)) = clearStrobes (runPins ps r) := by
  cases ps with
  | nil => rfl
  | cons p ps => rw [runPins_cons, clock_clearStrobes, runPins_cons]

/-- Settles O56, by induction on the steps: a step left out would only have cleared the strobes, which the steps
after it do not see. -/
theorem idleStepsChangeNothing : Obligations.IdleStepsChangeNothing := by
  intro sw cw ps
  induction ps with
  | nil => exact fun r => ⟨rfl, rfl, rfl⟩
  | cons p ps ih =>
    intro r
    obtain ⟨hsym, hbyte, hrun⟩ := ih (clock p r)
    cases h : withoutEffect p r with
    | true =>
      have hclock := clock_of_withoutEffect h
      rw [hclock, symbolsOf_clearStrobes] at hsym
      rw [hclock, bytesOf_clearStrobes] at hbyte
      rw [hclock, clearStrobes_runPins_clearStrobes] at hrun
      rw [dropIdleSteps, if_pos h, symbolsOf_cons, bytesOf_cons, runPins_cons, hclock]
      exact ⟨hsym, hbyte, hrun⟩
    | false =>
      rw [dropIdleSteps, if_neg (by simp [h]), symbolsOf_cons, symbolsOf_cons, bytesOf_cons, bytesOf_cons, runPins_cons,
        runPins_cons, hsym, hbyte]
      exact ⟨rfl, rfl, hrun⟩

/-! ## The steps of a frame (30_encoding.md R89) -/

theorem clock_ofStart (vh vl : BitVec sw) (rev inv verb : Bool) (r : Regs sw cw) :
    clock (Pins.ofStart vh vl rev inv verb) r = startFrame vh vl rev inv verb r := rfl

theorem clock_ofSmp (d : BitVec sw) (r : Regs sw cw) : clock (Pins.ofSmp d) r = smp (sampleOf d) (clearStrobes r) := rfl

theorem clock_ofEnd (r : Regs sw cw) : clock (Pins.ofEnd sw) r = endCapture (clearStrobes r) := rfl

theorem clock_ofSmpe (d : BitVec sw) (r : Regs sw cw) :
    clock (Pins.ofSmpe d) r = endCapture (smp (sampleOf d) (clearStrobes r)) := rfl

/-- The end of a capture publishes nothing and takes back nothing. -/
theorem taps_endCapture (r : Regs sw cw) :
    (endCapture r).published = r.published ∧ (endCapture r).emitted = r.emitted := by
  obtain ⟨hb, hbd, hs, hsd⟩ := outputs_of_payload (payload_endCapture r)
  rw [Regs.published, Regs.emitted, hb, hbd, hs, hsd]
  exact ⟨rfl, rfl⟩

/-- The steps of a frame after `START`, or the last of them. -/
def frameTail (samples : List (BitVec sw)) : List (Pins sw) := samples.map Pins.ofSmp ++ [Pins.ofEnd sw]

theorem runPins_frameTail (samples : List (BitVec sw)) (r : Regs sw cw) :
    runPins (frameTail samples) r = endCapture (clearStrobes (runPins (samples.map Pins.ofSmp) r)) :=
  runPins_append _ _ _

theorem symbolsOf_frameTail (samples : List (BitVec sw)) (r : Regs sw cw) :
    symbolsOf (frameTail samples) r = symbolsOf (samples.map Pins.ofSmp) r := by
  rw [frameTail, symbolsOf_append, symbolsOf_cons, clock_ofEnd, (taps_endCapture _).1]
  exact List.append_nil _

theorem bytesOf_frameTail (samples : List (BitVec sw)) (r : Regs sw cw) :
    bytesOf (frameTail samples) r = bytesOf (samples.map Pins.ofSmp) r := by
  rw [frameTail, bytesOf_append, bytesOf_cons, clock_ofEnd, (taps_endCapture _).2]
  exact List.append_nil _

section Frame

variable (vh vl : BitVec sw) (rev inv verb : Bool) (samples : List (BitVec sw)) (last : BitVec sw) (r : Regs sw cw)

/-- The registers after `START` and the samples of a frame. -/
def afterSamples : Regs sw cw := runPins (samples.map Pins.ofSmp) (startFrame vh vl rev inv verb r)

theorem runPins_framePins : runPins (framePins vh vl rev inv verb samples) r =
    endCapture (clearStrobes (afterSamples vh vl rev inv verb samples r)) :=
  runPins_frameTail samples (startFrame vh vl rev inv verb r)

theorem symbolsOf_framePins : symbolsOf (framePins vh vl rev inv verb samples) r =
    symbolsOf (samples.map Pins.ofSmp) (startFrame vh vl rev inv verb r) :=
  (symbolsOf_cons _ (frameTail samples) r).trans (symbolsOf_frameTail samples _)

theorem bytesOf_framePins : bytesOf (framePins vh vl rev inv verb samples) r =
    bytesOf (samples.map Pins.ofSmp) (startFrame vh vl rev inv verb r) :=
  (bytesOf_cons _ (frameTail samples) r).trans (bytesOf_frameTail samples _)

theorem afterSamples_concat : afterSamples vh vl rev inv verb (samples ++ [last]) r =
    smp (sampleOf last) (clearStrobes (afterSamples vh vl rev inv verb samples r)) := by
  rw [afterSamples, List.map_append, runPins_append]
  rfl

/-- With `SMPE` the capture ends on the strobes of the last sample (40_control_ops.md R108). -/
theorem runPins_frameLPins : runPins (frameLPins vh vl rev inv verb samples last) r =
    endCapture (afterSamples vh vl rev inv verb (samples ++ [last]) r) := by
  rw [frameLPins, runPins_cons, runPins_append, clock_ofStart, afterSamples_concat]
  rfl

theorem symbolsOf_frameLPins : symbolsOf (frameLPins vh vl rev inv verb samples last) r =
    symbolsOf ((samples ++ [last]).map Pins.ofSmp) (startFrame vh vl rev inv verb r) := by
  rw [frameLPins, symbolsOf_cons, symbolsOf_append, clock_ofStart, symbolsOf_cons, clock_ofSmpe, (taps_endCapture _).1,
    List.map_append, List.map_singleton, symbolsOf_append, symbolsOf_cons, clock_ofSmp]
  rfl

theorem bytesOf_frameLPins : bytesOf (frameLPins vh vl rev inv verb samples last) r =
    bytesOf ((samples ++ [last]).map Pins.ofSmp) (startFrame vh vl rev inv verb r) := by
  rw [frameLPins, bytesOf_cons, bytesOf_append, clock_ofStart, bytesOf_cons, clock_ofSmpe, (taps_endCapture _).2,
    List.map_append, List.map_singleton, bytesOf_append, bytesOf_cons, clock_ofSmp]
  rfl

end Frame

/-- The end of a capture reads no strobe: it leaves the same phase and error with them as without them. -/
theorem endCapture_clearStrobes (r : Regs sw cw) : endCapture (clearStrobes r) = clearStrobes (endCapture r) := by
  rw [clearStrobes_eq_setStrobes, endCapture_setStrobes, clearStrobes_eq_setStrobes]

/-- Settles O58: both frames take the same samples, and the separate `END` differs from the merged one in the
strobes alone. -/
theorem mergedLastSampleGivesTheSameFrame : Obligations.MergedLastSampleGivesTheSameFrame := by
  intro sw cw vh vl rev inv verb samples last r
  simp only [frameResult, runPins_frameLPins, runPins_framePins, bytesOf_frameLPins, bytesOf_framePins,
    symbolsOf_frameLPins, symbolsOf_framePins, endCapture_clearStrobes, clearStrobes_phase,
    clearStrobes_errCode, and_self]

/-! ## How a frame ends (44_frame_function.md R182, R186) -/

/-- No sample leads back to `IDLE` (10_state.md R23). -/
theorem smp_phase_ne_idle {r : Regs sw cw} (h : r.phase ≠ .idle) (v : Int) : (smp v r).phase ≠ .idle := by
  have hph2 {q : Regs sw cw} (hp : q.phase = .ph2) : (smpPh2 v q).phase ≠ .idle := by
    rcases smpPh2_phase v hp with h | h | h <;> simp [h]
  rcases smp_cases v r with ⟨hp, e⟩ | ⟨hp, e⟩ | ⟨_, e⟩ | ⟨_, e⟩ <;> rw [e]
  · rcases smpPh1_cases v r with ⟨_, e⟩ | ⟨_, e⟩ <;> rw [e]
    · exact h
    · exact hph2 rfl
  · exact hph2 hp
  · rwa [(smpPh3_phase_errCode v r).1]
  · exact h

theorem runPins_samples_phase_ne_idle (samples : List (BitVec sw)) {r : Regs sw cw} (h : r.phase ≠ .idle) :
    (runPins (samples.map Pins.ofSmp) r).phase ≠ .idle := by
  induction samples generalizing r with
  | nil => exact h
  | cons d samples ih => exact ih (smp_phase_ne_idle (r := clearStrobes r) h (sampleOf d))

/-- The end of a capture ends the frame. -/
theorem endCapture_phase {r : Regs sw cw} (h : r.phase ≠ .idle) :
    (endCapture r).phase = .done ∨ (endCapture r).phase = .err := by
  rcases endCapture_cases r with ⟨_, _, e⟩ | ⟨_, _, e⟩ | ⟨_, e⟩ | ⟨_, e⟩ | ⟨hs, e⟩ <;> rw [e]
  · exact .inr rfl
  · exact .inr rfl
  · exact .inr rfl
  · exact .inl rfl
  · exact ((scanning_eq_false_iff _).1 hs).resolve_left h

/-- Settles O57: `START` leaves `IDLE`, no sample goes back there, and from every other phase the end of the capture
ends the frame. -/
theorem frameEndsInDoneOrErr : Obligations.FrameEndsInDoneOrErr := by
  intro sw cw vh vl rev inv verb samples last r
  have hidle (vs : List (BitVec sw)) : (afterSamples vh vl rev inv verb vs r).phase ≠ .idle :=
    runPins_samples_phase_ne_idle vs (by simp)
  refine ⟨by simp [framePins], by simp [frameLPins], ?_, ?_⟩
  · rw [runPins_framePins]
    exact endCapture_phase (r := clearStrobes _) (hidle samples)
  · rw [runPins_frameLPins]
    exact endCapture_phase (hidle (samples ++ [last]))

end Sys2Proof.Machine
end

section
/-! PROOFS. The distance of two bytes (20_memory.md R62). -/

namespace Sys2Proof.Machine

variable {sw cw : Nat}

/-! ## Accepted samples up to the next byte (20_memory.md R62)

A chunk of eight symbols takes two samples a symbol, one to open the run and one to end it. -/

/-- How many accepted samples the next byte takes at least. Outside Phase 3 the bound is that of a chunk not yet
begun. -/
def samplesToByte (r : Regs sw cw) : Nat :=
  if r.phase = .ph3 then 2 * (8 - r.bitcnt.toNat) - (if r.run = 0 then 0 else 1) else 16

/-- A frame in its preamble has begun no chunk. -/
def ChunkEmpty (r : Regs sw cw) : Prop := r.phase = .ph1 ∨ r.phase = .ph2 → r.bitcnt = 0

theorem samplesToByte_le (r : Regs sw cw) : samplesToByte r ≤ 16 := by
  unfold samplesToByte
  split_ifs <;> omega

theorem samplesToByte_of_ne_ph3 {r : Regs sw cw} (h : r.phase ≠ .ph3) : samplesToByte r = 16 := if_neg h

theorem samplesToByte_of_ph3 {r : Regs sw cw} (h : r.phase = .ph3) :
    samplesToByte r = 2 * (8 - r.bitcnt.toNat) - (if r.run = 0 then 0 else 1) := if_pos h

theorem samplesToByte_of_chunk_start {r : Regs sw cw} (hcnt : r.bitcnt = 0) (hrun : r.run = 0) :
    samplesToByte r = 16 := by
  unfold samplesToByte
  split_ifs <;> simp [hcnt]

theorem ChunkEmpty.of_ph3 {r : Regs sw cw} (h : r.phase = .ph3) : ChunkEmpty r := by
  rintro (hp | hp) <;> simp [h] at hp

/-- The registers `q` follow `r` at the price of `n` accepted samples: a byte on the tap has used the samples up and
begins a new count, and every other outcome has used at most `n` of them. -/
structure Spends (n : Nat) (r q : Regs sw cw) : Prop where
  chunkEmpty : ChunkEmpty q
  byte : q.bValid = true → samplesToByte r ≤ n ∧ samplesToByte q = 16
  rest : samplesToByte r ≤ samplesToByte q + n

/-- Where nothing changes nothing is spent. -/
theorem Spends.refl (n : Nat) {r : Regs sw cw} (h : ChunkEmpty r) (hb : r.bValid = false) : Spends n r r where
  chunkEmpty := h
  byte h := by rw [hb] at h; cases h
  rest := Nat.le_add_right _ _

/-- The default clear before a step spends nothing. -/
theorem Spends.of_clearStrobes {n : Nat} {r q : Regs sw cw} (h : Spends n (clearStrobes r) q) : Spends n r q :=
  ⟨h.chunkEmpty, h.byte, h.rest⟩

/-- A sample of the preamble finds and leaves the count at its start. -/
theorem spends_of_preamble {r q : Regs sw cw} (n : Nat) (hpay : q.payload = r.payload) (hcnt : r.bitcnt = 0)
    (hb : r.bValid = false) (hrun : q.phase = .ph3 → q.run = 0) : Spends n r q := by
  simp only [Regs.payload, Prod.mk.injEq] at hpay
  obtain ⟨_, _, hcnt', _, hb', _⟩ := hpay
  have hq : samplesToByte q = 16 := by
    by_cases hp : q.phase = .ph3
    · exact samplesToByte_of_chunk_start (hcnt'.trans hcnt) (hrun hp)
    · exact samplesToByte_of_ne_ph3 hp
  refine ⟨fun _ => hcnt'.trans hcnt, fun h => ?_, ?_⟩
  · rw [hb', hb] at h
    cases h
  · have hr := samplesToByte_le r
    omega

/-- Phase 3 is entered with no run open (41_preamble_detector.md R124). -/
theorem smpPh2_run_of_ph3 (v : Int) {r : Regs sw cw} (hp : r.phase = .ph2) (h : (smpPh2 v r).phase = .ph3) :
    (smpPh2 v r).run = 0 := by
  rcases smpPh2_cases v r with ⟨_, _, e⟩ | ⟨_, _, e⟩ | ⟨_, e⟩ <;> rw [e] at h ⊢
  · simp at h
  · simp [hp] at h
  · obtain ⟨_, _, _, _, _, _, ⟨_, e⟩ | ⟨_, e⟩⟩ := stopPh2_cases r <;> rw [e] at h ⊢
    simp at h

theorem smpPh1_run_of_ph3 (v : Int) {r : Regs sw cw} (hp : r.phase = .ph1) (h : (smpPh1 v r).phase = .ph3) :
    (smpPh1 v r).run = 0 := by
  rcases smpPh1_cases v r with ⟨_, e⟩ | ⟨_, e⟩ <;> rw [e] at h ⊢
  · simp [hp] at h
  · exact smpPh2_run_of_ph3 v rfl h

/-- A sample above `VHIGH` opens a run, or makes the open one longer. -/
theorem incRun_spends {r : Regs sw cw} (hp : r.phase = .ph3) (hb : r.bValid = false) : Spends 1 r (incRun r) where
  chunkEmpty := .of_ph3 hp
  byte h := by rw [incRun_bValid, hb] at h; cases h
  rest := by
    rw [samplesToByte_of_ph3 hp, samplesToByte_of_ph3 (r := incRun r) hp, incRun_bitcnt]
    split_ifs <;> omega

/-- The sample that ends a run completes a symbol, and with the eighth symbol the byte. -/
theorem closeRun_spends (b : Bool) {r : Regs sw cw} (hp : r.phase = .ph3) (hb : r.bValid = false) (hrun : r.run ≠ 0) :
    Spends 1 r (closeRun b r) := by
  have hp' : (closeRun b r).phase = .ph3 := (pushSymbol_phase_errCode b (emitSym b r)).1.trans hp
  have hr : samplesToByte r = 2 * (8 - r.bitcnt.toNat) - 1 := by rw [samplesToByte_of_ph3 hp, if_neg hrun]
  have hrun' : (closeRun b r).run = 0 := rfl
  have hq : samplesToByte (closeRun b r) = 2 * (8 - (closeRun b r).bitcnt.toNat) := by
    rw [samplesToByte_of_ph3 hp', if_pos hrun', Nat.sub_zero]
  rcases closeRun_cases b r with ⟨_, e⟩ | ⟨_, _, e⟩ | ⟨_, h7, e⟩
  · have hcnt : (closeRun b r).bitcnt.toNat = r.bitcnt.toNat := by rw [e]
    have hb' : (closeRun b r).bValid = false := by rw [e]; exact hb
    exact ⟨.of_ph3 hp', fun h => absurd (hb'.symm.trans h) (by simp), by omega⟩
  · have hcnt : (closeRun b r).bitcnt.toNat = (r.bitcnt.toNat + 1) % 8 := by rw [e]; exact BitVec.toNat_add _ _
    have hb' : (closeRun b r).bValid = false := by rw [e]; exact hb
    exact ⟨.of_ph3 hp', fun h => absurd (hb'.symm.trans h) (by simp), by omega⟩
  · have h7' : r.bitcnt.toNat = 7 := by rw [h7]; rfl
    have hcnt : (closeRun b r).bitcnt.toNat = 0 := by rw [e]; rfl
    exact ⟨.of_ph3 hp', fun _ => by omega, by omega⟩

/-- A sample spends one accepted sample, and none where it is ignored. -/
theorem smp_spends (v : Int) {r : Regs sw cw} (h : ChunkEmpty r) (hb : r.bValid = false) :
    Spends (if scanning r.phase then 1 else 0) r (smp v r) := by
  rcases smp_cases v r with ⟨hp, e⟩ | ⟨hp, e⟩ | ⟨hp, e⟩ | ⟨hs, e⟩ <;> rw [e]
  · exact spends_of_preamble _ (payload_smpPh1 v r) (h (.inl hp)) hb (smpPh1_run_of_ph3 v hp)
  · exact spends_of_preamble _ (payload_smpPh2 v r) (h (.inr hp)) hb (smpPh2_run_of_ph3 v hp)
  · rw [hp, scanning, if_pos rfl]
    rcases smpPh3_cases v r with ⟨_, e⟩ | ⟨_, _, e⟩ | ⟨_, hrun, e⟩ <;> rw [e]
    · exact incRun_spends hp hb
    · exact .refl _ h hb
    · exact closeRun_spends _ hp hb hrun
  · rw [hs]
    exact .refl _ h hb

/-- The end of a capture spends nothing. -/
theorem Spends.endCapture {n : Nat} {r q : Regs sw cw} (h : Spends n r q) : Spends n r (Machine.endCapture q) := by
  have hb := (outputs_of_payload (payload_endCapture q)).1
  have hq := samplesToByte_le q
  have hkeeps : ChunkEmpty (Machine.endCapture q) ∧ samplesToByte q ≤ samplesToByte (Machine.endCapture q) := by
    cases hs : scanning q.phase with
    | false =>
      rw [endCapture_of_not_scanning q hs]
      exact ⟨h.chunkEmpty, Nat.le_refl _⟩
    | true =>
      have hframe : q.phase ≠ .idle := fun hp => by simp [hp, scanning] at hs
      have hended := endCapture_phase hframe
      rw [samplesToByte_of_ne_ph3 (r := Machine.endCapture q) (by rcases hended with hp | hp <;> simp [hp])]
      refine ⟨fun hpre => absurd hended ?_, hq⟩
      rcases hpre with hp | hp <;> simp [hp]
  obtain ⟨hempty, hle⟩ := hkeeps
  have hmax := samplesToByte_le (Machine.endCapture q)
  refine ⟨hempty, fun hbyte => ?_, by have := h.rest; omega⟩
  obtain ⟨hused, hnew⟩ := h.byte (hb ▸ hbyte)
  exact ⟨hused, by omega⟩

/-- A step that clears the strobes and begins or leaves a frame spends nothing. -/
theorem spends_of_cleared (n : Nat) {r q : Regs sw cw} (hcnt : q.bitcnt = 0) (hb : q.bValid = false)
    (hp : q.phase ≠ .ph3) : Spends n r q where
  chunkEmpty _ := hcnt
  byte h := by rw [hb] at h; cases h
  rest := by
    have hr := samplesToByte_le r
    rw [samplesToByte_of_ne_ph3 hp]
    omega

/-- A step spends what it accepts (20_memory.md R61). -/
theorem clock_spends (p : Pins sw) {r : Regs sw cw} (h : ChunkEmpty r) :
    Spends (if acceptsSample p r then 1 else 0) r (clock p r) := by
  have hsmp (v : Int) : Spends (if scanning r.phase then 1 else 0) r (smp v (clearStrobes r)) :=
    .of_clearStrobes (smp_spends v (r := clearStrobes r) h rfl)
  have hclear (n : Nat) : Spends n r (clearStrobes r) := .of_clearStrobes (.refl n (r := clearStrobes r) h rfl)
  have haccepts (hrst : p.rst = false) (hstart : p.start = false) (hvalid : p.sValid = true) :
      acceptsSample p r = scanning r.phase := by simp [acceptsSample, hrst, hstart, hvalid]
  rcases clock_cases p r with ⟨hrst, e⟩ | ⟨hrst, hstart, e⟩ | ⟨hrst, hstart, _, hvalid, e⟩ |
    ⟨hrst, hstart, _, hvalid, e⟩ | ⟨hrst, hstart, _, hvalid, e⟩ | ⟨hrst, hstart, _, hvalid, e⟩ <;> rw [e]
  · exact spends_of_cleared _ rfl rfl (by simp)
  · exact spends_of_cleared _ rfl rfl (by simp)
  · rw [haccepts hrst hstart hvalid]
    exact (hsmp _).endCapture
  · exact (hclear _).endCapture
  · rw [haccepts hrst hstart hvalid]
    exact hsmp _
  · exact hclear _

/-- By induction on the steps: with fewer accepted samples than the next byte takes, no byte is emitted. -/
theorem bytesOf_eq_nil (ps : List (Pins sw)) {r : Regs sw cw} (h : ChunkEmpty r)
    (hfew : acceptedCount ps r < samplesToByte r) : bytesOf ps r = [] := by
  induction ps generalizing r with
  | nil => rfl
  | cons p ps ih =>
    rw [acceptedCount] at hfew
    obtain ⟨hempty, hbyte, hrest⟩ := clock_spends p h
    have hnone : (clock p r).bValid = false := by
      by_contra hb
      have hused := (hbyte (by simpa using hb)).1
      omega
    rw [bytesOf_cons, ih hempty (by omega), Regs.emitted, hnone]
    rfl

/-- A byte comes from a step that began in Phase 3 (44_frame_function.md R188). -/
theorem phase_of_clock_bValid {p : Pins sw} {r : Regs sw cw} (h : (clock p r).bValid = true) : r.phase = .ph3 := by
  have hsmp (v : Int) (hb : (smp v (clearStrobes r)).bValid = true) : r.phase = .ph3 := by
    obtain ⟨hbyte, hsym⟩ := smp_outputs (r := clearStrobes r) rfl rfl v
    exact (hsym (hbyte hb)).1
  rcases clock_cases p r with ⟨_, e⟩ | ⟨_, _, e⟩ | ⟨_, _, _, _, e⟩ | ⟨_, _, _, _, e⟩ | ⟨_, _, _, _, e⟩ |
    ⟨_, _, _, _, e⟩ <;> rw [e] at h
  · simp at h
  · simp at h
  · exact hsmp _ ((outputs_of_payload (payload_endCapture _)).1 ▸ h)
  · have hb := (outputs_of_payload (payload_endCapture (clearStrobes r))).1
    simp [hb] at h
  · exact hsmp _ h
  · simp at h

/-- Settles O59: after a byte the count begins again at 16. -/
theorem bytesAreSixteenAcceptedSamplesApart : Obligations.BytesAreSixteenAcceptedSamplesApart := by
  intro sw cw p ps r hb hfew
  obtain ⟨hempty, hbyte, _⟩ := clock_spends p (.of_ph3 (phase_of_clock_bValid hb))
  exact bytesOf_eq_nil ps hempty (by rw [(hbyte hb).2]; exact hfew)

end Sys2Proof.Machine
end

section
/-! PROOFS. The flag `VERB` (10_state.md R28): the block reads `CTRL` only through `REV` and `INV`, so another
`CTRL` with the same two goes through every operation unread. -/

namespace Sys2Proof.Machine

variable {sw cw : Nat}

/-- The registers with another `CTRL`. -/
def Regs.setCtrl (c : BitVec 3) (r : Regs sw cw) : Regs sw cw := { r with ctrl := c }

/-- `c` has the flags `REV` and `INV` of `CTRL`. -/
structure SameFlags (c : BitVec 3) (r : Regs sw cw) : Prop where
  rev : c.getLsbD 0 = r.ctrlRev
  inv : c.getLsbD 1 = r.ctrlInv

/-! ## Every operation on the registers -/

theorem recordPreEnd_setCtrl (c : BitVec 3) (r : Regs sw cw) :
    recordPreEnd (r.setCtrl c) = (recordPreEnd r).setCtrl c := by
  rw [recordPreEnd, recordPreEnd, apply_ite (Regs.setCtrl c)]
  rfl

theorem stopPh2_setCtrl (c : BitVec 3) (r : Regs sw cw) : stopPh2 (r.setCtrl c) = (stopPh2 r).setCtrl c := by
  rw [stopPh2, stopPh2, recordPreEnd_setCtrl, apply_ite (Regs.setCtrl c)]
  rfl

theorem smpPh2_setCtrl (c : BitVec 3) (v : Int) (r : Regs sw cw) :
    smpPh2 v (r.setCtrl c) = (smpPh2 v r).setCtrl c := by
  rw [smpPh2, stopPh2_setCtrl, smpPh2, apply_ite (Regs.setCtrl c), apply_ite (Regs.setCtrl c)]
  rfl

theorem smpPh1_setCtrl (c : BitVec 3) (v : Int) (r : Regs sw cw) :
    smpPh1 v (r.setCtrl c) = (smpPh1 v r).setCtrl c := by
  rw [smpPh1, smpPh1, apply_ite (Regs.setCtrl c), ← smpPh2_setCtrl c v (setPhase .ph2 r)]
  rfl

theorem completeByte_setCtrl {c : BitVec 3} {r : Regs sw cw} (h : c.getLsbD 1 = r.ctrlInv) :
    completeByte (r.setCtrl c) = (completeByte r).setCtrl c := by
  have hinv : (r.setCtrl c).ctrlInv = r.ctrlInv := h
  rw [completeByte, hinv]
  rfl

theorem pushSymbol_setCtrl {c : BitVec 3} {r : Regs sw cw} (h : SameFlags c r) (b : Bool) :
    pushSymbol b (r.setCtrl c) = (pushSymbol b r).setCtrl c := by
  have hbyte : completeByte (({ r with acc := shiftIn r.acc b } : Regs sw cw).setCtrl c) =
      (completeByte { r with acc := shiftIn r.acc b }).setCtrl c := completeByte_setCtrl h.inv
  simp only [pushSymbol, apply_ite (Regs.setCtrl c), ← hbyte]
  rfl

theorem closeRun_setCtrl {c : BitVec 3} {r : Regs sw cw} (h : SameFlags c r) (b : Bool) :
    closeRun b (r.setCtrl c) = (closeRun b r).setCtrl c := by
  have hpush : pushSymbol b ((emitSym b r).setCtrl c) = (pushSymbol b (emitSym b r)).setCtrl c :=
    pushSymbol_setCtrl (r := emitSym b r) ⟨h.rev, h.inv⟩ b
  have hemit : emitSym b (r.setCtrl c) = (emitSym b r).setCtrl c := rfl
  rw [closeRun, hemit, hpush]
  rfl

theorem smpPh3_setCtrl {c : BitVec 3} {r : Regs sw cw} (h : SameFlags c r) (v : Int) :
    smpPh3 v (r.setCtrl c) = (smpPh3 v r).setCtrl c := by
  have hrev : (r.setCtrl c).ctrlRev = r.ctrlRev := h.rev
  rcases smpPh3_cases v r with ⟨hv, e⟩ | ⟨hv, hrun, e⟩ | ⟨hv, hrun, e⟩ <;> rw [e]
  · exact smpPh3_of_high (r := r.setCtrl c) hv
  · exact smpPh3_of_gap (r := r.setCtrl c) hv hrun
  · rw [smpPh3_of_run_end (r := r.setCtrl c) hv hrun, hrev]
    exact closeRun_setCtrl h _

theorem smp_setCtrl {c : BitVec 3} {r : Regs sw cw} (h : SameFlags c r) (v : Int) :
    smp v (r.setCtrl c) = (smp v r).setCtrl c := by
  rcases smp_cases v r with ⟨hp, e⟩ | ⟨hp, e⟩ | ⟨hp, e⟩ | ⟨hs, e⟩ <;> rw [e]
  · rw [smp_of_ph1 v (r.setCtrl c) hp, smpPh1_setCtrl]
  · rw [smp_of_ph2 v (r.setCtrl c) hp, smpPh2_setCtrl]
  · rw [smp_of_ph3 v (r.setCtrl c) hp, smpPh3_setCtrl h]
  · exact smp_of_not_scanning v (r.setCtrl c) hs

theorem endCapture_setCtrl (c : BitVec 3) (r : Regs sw cw) : endCapture (r.setCtrl c) = (endCapture r).setCtrl c := by
  rcases endCapture_cases r with ⟨hp, hs, e⟩ | ⟨hp, hs, e⟩ | ⟨hp, e⟩ | ⟨hp, e⟩ | ⟨hs, e⟩ <;> rw [e]
  · exact (endCapture_of_ph1 (r.setCtrl c) hp).trans (endPh1_of_no_sample (r.setCtrl c) hs)
  · exact (endCapture_of_ph1 (r.setCtrl c) hp).trans (endPh1_of_samples (r.setCtrl c) hs)
  · exact endCapture_of_ph2 (r.setCtrl c) hp
  · exact endCapture_of_ph3 (r.setCtrl c) hp
  · exact endCapture_of_not_scanning (r.setCtrl c) hs

/-! ## Steps and runs without `rst` and `start` -/

theorem ctrl_clock {p : Pins sw} (hrst : p.rst = false) (hstart : p.start = false) (r : Regs sw cw) :
    (clock p r).ctrl = r.ctrl :=
  ctrl_eq_of_config (config_clock hrst hstart r)

theorem clock_setCtrl {p : Pins sw} (hrst : p.rst = false) (hstart : p.start = false) {c : BitVec 3} {r : Regs sw cw}
    (h : SameFlags c r) : clock p (r.setCtrl c) = (clock p r).setCtrl c := by
  have hsmp (v : Int) : smp v ((clearStrobes r).setCtrl c) = (smp v (clearStrobes r)).setCtrl c :=
    smp_setCtrl (r := clearStrobes r) ⟨h.rev, h.inv⟩ v
  have hclear : clearStrobes (r.setCtrl c) = (clearStrobes r).setCtrl c := rfl
  cases hvalid : p.sValid <;> cases hend : p.sEnd <;>
    simp only [clock, hrst, hstart, hvalid, hend, hclear, hsmp, endCapture_setCtrl, if_true, if_false,
      Bool.false_eq_true]

/-- No pin shows `CTRL` (10_state.md R44), and no tap carries it. -/
theorem outPins_setCtrl (c : BitVec 3) (r : Regs sw cw) : outPins (r.setCtrl c) = outPins r := rfl

theorem taps_setCtrl (c : BitVec 3) (r : Regs sw cw) :
    (r.setCtrl c).published = r.published ∧ (r.setCtrl c).emitted = r.emitted := ⟨rfl, rfl⟩

/-- By induction on the steps: each leaves `CTRL`, so the flags stay the same. -/
theorem runPins_setCtrl (ps : List (Pins sw)) {c : BitVec 3} {r : Regs sw cw}
    (hps : ∀ p ∈ ps, p.rst = false ∧ p.start = false) (h : SameFlags c r) :
    (runPins ps r).ctrl = r.ctrl ∧ runPins ps (r.setCtrl c) = (runPins ps r).setCtrl c ∧
      symbolsOf ps (r.setCtrl c) = symbolsOf ps r ∧ bytesOf ps (r.setCtrl c) = bytesOf ps r := by
  induction ps generalizing r with
  | nil => exact ⟨rfl, rfl, rfl, rfl⟩
  | cons p ps ih =>
    obtain ⟨⟨hrst, hstart⟩, hrest⟩ := List.forall_mem_cons.1 hps
    have hctrl := ctrl_clock hrst hstart r
    have hflags : SameFlags c (clock p r) :=
      ⟨by rw [Regs.ctrlRev, hctrl]; exact h.rev, by rw [Regs.ctrlInv, hctrl]; exact h.inv⟩
    obtain ⟨hctrl', hrun, hsym, hbyte⟩ := ih hrest hflags
    obtain ⟨hpub, hemit⟩ := taps_setCtrl c (clock p r)
    rw [runPins_cons, runPins_cons, symbolsOf_cons, symbolsOf_cons, bytesOf_cons, bytesOf_cons,
      clock_setCtrl hrst hstart h, hpub, hemit, hrun, hsym, hbyte]
    exact ⟨hctrl'.trans hctrl, rfl, rfl, rfl⟩

/-! ## The pin `cfg_verbose` -/

/-- In any step the pin `cfg_verbose` reaches `CTRL` alone, and there bit 2 alone. -/
theorem clock_cfgVerbose (p : Pins sw) (r : Regs sw cw) (verb : Bool) : ∃ c : BitVec 3, SameFlags c (clock p r) ∧
    clock { p with cfgVerbose := verb } r = (clock p r).setCtrl c := by
  by_cases h : p.rst = false ∧ p.start = true
  · obtain ⟨hrst, hstart⟩ := h
    obtain ⟨hrev, hinv, _⟩ := ctrlOf_getLsbD p.cfgReverse p.cfgInvert verb
    obtain ⟨hrev', hinv', _⟩ := ctrlOf_getLsbD p.cfgReverse p.cfgInvert p.cfgVerbose
    refine ⟨ctrlOf p.cfgReverse p.cfgInvert verb, ?_, ?_⟩
    · simp only [clock, hrst, hstart, if_true, if_false, Bool.false_eq_true]
      exact ⟨hrev.trans hrev'.symm, hinv.trans hinv'.symm⟩
    · simp only [clock, hrst, hstart, if_true, if_false, Bool.false_eq_true]
      rfl
  · have hunread : clock { p with cfgVerbose := verb } r = clock p r := by
      cases hrst : p.rst <;> cases hstart : p.start <;> simp_all [clock]
    exact ⟨(clock p r).ctrl, ⟨rfl, rfl⟩, hunread⟩

/-- The samples and the end of a frame have `rst` and `start` 0. -/
theorem samples_end_no_start (samples : List (BitVec sw)) :
    ∀ p ∈ samples.map Pins.ofSmp ++ [Pins.ofEnd sw], p.rst = false ∧ p.start = false := by
  intro p hp
  rcases List.mem_append.1 hp with h | h
  · obtain ⟨d, _, rfl⟩ := List.mem_map.1 h
    exact ⟨rfl, rfl⟩
  · rw [List.mem_singleton.1 h]
    exact ⟨rfl, rfl⟩

/-- Settles O45: the pin reaches bit 2 of `CTRL` alone, and what differs there alone stays so. -/
theorem verboseHasNoEffect : Obligations.VerboseHasNoEffect := by
  refine ⟨?step, ?run, ?pin, ?frame⟩
  case step =>
    intro sw cw p r c hrst hstart hrev hinv
    have h := clock_setCtrl hrst hstart (c := c) (r := r) ⟨hrev, hinv⟩
    exact ⟨ctrl_clock hrst hstart r, h, (congrArg outPins h).trans (outPins_setCtrl c _)⟩
  case run =>
    intro sw cw ps r c hps hrev hinv
    exact runPins_setCtrl ps hps ⟨hrev, hinv⟩
  case pin =>
    intro sw cw p r verb
    obtain ⟨c, ⟨hrev, hinv⟩, h⟩ := clock_cfgVerbose p r verb
    exact ⟨c, hrev, hinv, h, (congrArg outPins h).trans (outPins_setCtrl c _)⟩
  case frame =>
    intro sw cw vh vl rev inv samples r
    obtain ⟨hrev, hinv, _⟩ := ctrlOf_getLsbD rev inv true
    obtain ⟨hrev', hinv', _⟩ := ctrlOf_getLsbD rev inv false
    have hflags : SameFlags (ctrlOf rev inv true) (startFrame vh vl rev inv false r) :=
      ⟨hrev.trans hrev'.symm, hinv.trans hinv'.symm⟩
    obtain ⟨_, hrun, hsym, hbyte⟩ := runPins_setCtrl _ (samples_end_no_start samples) hflags
    simp only [framePins, symbolsOf_cons, bytesOf_cons]
    exact ⟨hrun, (congrArg outPins hrun).trans (outPins_setCtrl _ _), congrArg (_ ++ ·) hsym, congrArg (_ ++ ·) hbyte⟩

end Sys2Proof.Machine
end

section
/-! PROOFS. The payload scan against the Phase 3 loop of the reference function (42_pulse_classifier.md R140, R141;
44_frame_function.md R180, R183). -/

namespace Sys2Proof.Machine

variable {sw cw : Nat}

/-- What a scan of the payload leaves as it is, the saturation flag being sticky (10_state.md R37, R46). -/
structure SameFrame (r q : Regs sw cw) : Prop where
  phase : q.phase = r.phase
  errCode : q.errCode = r.errCode
  config : q.config = r.config
  preamble : q.preamble = r.preamble
  diagSat : r.diagSat = true → q.diagSat = true

theorem SameFrame.refl (r : Regs sw cw) : SameFrame r r := ⟨rfl, rfl, rfl, rfl, id⟩

theorem SameFrame.trans {r q q' : Regs sw cw} (h : SameFrame r q) (h' : SameFrame q q') : SameFrame r q' where
  phase := h'.phase.trans h.phase
  errCode := h'.errCode.trans h.errCode
  config := h'.config.trans h.config
  preamble := h'.preamble.trans h.preamble
  diagSat hsat := h'.diagSat (h.diagSat hsat)

/-- What the scan reads of the configuration and of the calibration. -/
theorem SameFrame.reads {r q : Regs sw cw} (h : SameFrame r q) :
    q.vhigh = r.vhigh ∧ q.ctrlRev = r.ctrlRev ∧ q.ctrlInv = r.ctrlInv ∧ q.long = r.long := by
  have hctrl := ctrl_eq_of_config h.config
  have hconfig := h.config
  have hpreamble := h.preamble
  simp only [Regs.config, Regs.preamble, Prod.mk.injEq] at hconfig hpreamble
  obtain ⟨hvhigh, _⟩ := hconfig
  obtain ⟨_, _, _, _, hlong⟩ := hpreamble
  exact ⟨hvhigh, by rw [Regs.ctrlRev, hctrl, Regs.ctrlRev], by rw [Regs.ctrlInv, hctrl, Regs.ctrlInv], hlong⟩

/-- The saturation flag is sticky inside a frame (10_state.md R37). -/
theorem smpPh3_diagSat (v : Int) {r : Regs sw cw} (h : r.diagSat = true) : (smpPh3 v r).diagSat = true := by
  rcases smpPh3_cases v r with ⟨_, e⟩ | ⟨_, _, e⟩ | ⟨_, _, e⟩ <;> rw [e]
  · exact h
  · exact h
  · rcases closeRun_cases (!(xor (decide (5 * r.run.toNat < 3 * r.long.toNat)) r.ctrlRev)) r with
      ⟨_, e⟩ | ⟨_, _, e⟩ | ⟨_, _, e⟩ <;> rw [e]
    · exact h
    · exact h
    · simp [satFlag, h]

theorem sameFrame_smpPh3 (v : Int) (r : Regs sw cw) : SameFrame r (smpPh3 v r) :=
  ⟨(smpPh3_phase_errCode v r).1, (smpPh3_phase_errCode v r).2, config_smpPh3 v r, preamble_smpPh3 v r, smpPh3_diagSat v⟩

theorem sameFrame_clearStrobes (r : Regs sw cw) : SameFrame r (clearStrobes r) := ⟨rfl, rfl, rfl, rfl, id⟩

/-- A sample of Phase 3, as a step. -/
theorem clock_ofSmp_of_ph3 (d : BitVec sw) {r : Regs sw cw} (h : r.phase = .ph3) :
    clock (Pins.ofSmp d) r = smpPh3 (sampleOf d) (clearStrobes r) := smp_of_ph3 _ (clearStrobes r) h

theorem sameFrame_clock_of_ph3 (d : BitVec sw) {r : Regs sw cw} (h : r.phase = .ph3) :
    SameFrame r (clock (Pins.ofSmp d) r) := by
  rw [clock_ofSmp_of_ph3 d h]
  exact (sameFrame_clearStrobes r).trans (sameFrame_smpPh3 _ _)

/-! ## One turn of the reference's loop (44_frame_function.md R180) -/

section Reference

variable {v vh : Int} {long n : Nat} {rev : Bool}

theorem refBits_of_high (hv : vh < v) (rest : List Int) :
    refBits (v :: rest) vh long rev n = [] ++ refBits rest vh long rev (n + 1) := by
  rw [refBits, if_pos hv, List.nil_append]

theorem refBits_of_gap (hv : v ≤ vh) (rest : List Int) :
    refBits (v :: rest) vh long rev 0 = [] ++ refBits rest vh long rev 0 := by
  rw [refBits, if_neg (Int.not_lt.2 hv), classify_zero, List.nil_append]

theorem refBits_of_run_end (hv : v ≤ vh) (hn : n ≠ 0) (rest : List Int) :
    refBits (v :: rest) vh long rev n =
      [!(xor (decide (5 * n < 3 * long)) rev)] ++ refBits rest vh long rev 0 := by
  rw [refBits, if_neg (Int.not_lt.2 hv), classify_of_ne_zero _ _ _ hn, List.singleton_append]

end Reference

/-! ## One sample -/

/-- A frame in Phase 3 that has published the symbols `bits` and has counted `n` high samples since; the bound on
`LONG` is what calibration gives. -/
structure InPayload (acc : Byte) (bits : List Bool) (n : Nat) (r : Regs sw cw) : Prop where
  phase : r.phase = .ph3
  long_le : r.long.toNat ≤ (2 ^ cw - 1) / 3
  run : r.run.toNat = min n (2 ^ cw - 1)
  received : Received acc bits r

theorem InPayload.clearStrobes {acc : Byte} {bits : List Bool} {n : Nat} {r : Regs sw cw} (h : InPayload acc bits n r) :
    InPayload acc bits n (clearStrobes r) := ⟨h.phase, h.long_le, h.run, h.received.clearStrobes⟩

/-- The end of a run publishes its symbol and hands it to the reassembler (42_pulse_classifier.md R141, R146). -/
theorem Received.closeRun {acc : Byte} {bits : List Bool} {r : Regs sw cw} (h : Received acc bits r)
    (hb : r.bValid = false) (b : Bool) :
    Received acc (bits ++ [b]) (closeRun b r) ∧ (closeRun b r).published = [b] ∧
      refPacket (bits ++ [b]) r.ctrlInv = refPacket bits r.ctrlInv ++ (closeRun b r).emitted := by
  have hemit : Received acc bits (emitSym b r) := ⟨h.startSeen, h.acc_eq, h.bitcnt, h.byteCount, h.saturated⟩
  obtain ⟨hrec, hpacket⟩ := hemit.push hb b
  refine ⟨⟨hrec.startSeen, hrec.acc_eq, hrec.bitcnt, hrec.byteCount, hrec.saturated⟩, ?_, hpacket⟩
  rcases closeRun_cases b r with ⟨_, e⟩ | ⟨_, _, e⟩ | ⟨_, _, e⟩ <;> rw [e] <;> rfl

/-- The run register is empty exactly when no high sample has been counted; a counter of no bit could not tell. -/
theorem InPayload.run_eq_zero_iff {acc : Byte} {bits : List Bool} {n : Nat} {r : Regs sw cw}
    (h : InPayload acc bits n r) (hcw : 0 < cw) : r.run = 0 ↔ n = 0 := by
  have hmax := Nat.one_lt_two_pow hcw.ne'
  have hrun := h.run
  rw [← BitVec.toNat_inj]
  simp only [BitVec.ofNat_eq_ofNat, BitVec.toNat_zero]
  omega

/-- A high sample is counted. -/
theorem InPayload.high {acc : Byte} {bits : List Bool} {n : Nat} {r : Regs sw cw} (h : InPayload acc bits n r) :
    InPayload acc bits (n + 1) (incRun r) := by
  have hrec := h.received
  have hinc : (incRun r).run.toNat = min (r.run.toNat + 1) (2 ^ cw - 1) := satInc_toNat r.run
  have hrun := h.run
  exact ⟨h.phase, h.long_le, by omega, hrec.startSeen, hrec.acc_eq, hrec.bitcnt, hrec.byteCount, hrec.saturated⟩

/-- After the end of a run the frame waits for the next one. -/
theorem InPayload.close {acc : Byte} {bits : List Bool} {n : Nat} {r : Regs sw cw} (h : InPayload acc bits n r)
    (hb : r.bValid = false) (b : Bool) : InPayload acc (bits ++ [b]) 0 (closeRun b r) := by
  have hpreamble := preamble_pushSymbol b (emitSym b r)
  simp only [Regs.preamble, Prod.mk.injEq] at hpreamble
  obtain ⟨_, _, _, _, hlong⟩ := hpreamble
  have hlong' : (closeRun b r).long = r.long := hlong
  exact
    { phase := (pushSymbol_phase_errCode b (emitSym b r)).1.trans h.phase
      long_le := by rw [hlong']; exact h.long_le
      run := by simp [closeRun]
      received := (h.received.closeRun hb b).1 }

/-- One sample of the payload does what one turn of the reference's loop does; a saturated run has the symbol of the
true count (42_pulse_classifier.md R145). -/
theorem InPayload.step {acc : Byte} {bits : List Bool} {n : Nat} {r : Regs sw cw} (h : InPayload acc bits n r)
    (hcw : 0 < cw) (d : BitVec sw) :
    ∃ syms m, (clock (Pins.ofSmp d) r).published = syms ∧ InPayload acc (bits ++ syms) m (clock (Pins.ofSmp d) r) ∧
      refPacket (bits ++ syms) r.ctrlInv = refPacket bits r.ctrlInv ++ (clock (Pins.ofSmp d) r).emitted ∧
      ∀ rest, refBits (sampleOf d :: rest) r.vhigh.toInt r.long.toNat r.ctrlRev n =
        syms ++ refBits rest r.vhigh.toInt r.long.toNat r.ctrlRev m := by
  have hclear := h.clearStrobes
  rw [clock_ofSmp_of_ph3 d h.phase]
  rcases smpPh3_cases (sampleOf d) (Machine.clearStrobes r) with ⟨hv, e⟩ | ⟨hv, hrun, e⟩ | ⟨hv, hrun, e⟩ <;> rw [e]
  · refine ⟨[], n + 1, rfl, ?_, ?_, refBits_of_high hv⟩
    · rw [List.append_nil]
      exact hclear.high
    · rw [List.append_nil]
      exact (List.append_nil _).symm
  · have hn : n = 0 := (hclear.run_eq_zero_iff hcw).1 hrun
    subst hn
    refine ⟨[], 0, rfl, ?_, ?_, refBits_of_gap hv⟩
    · rw [List.append_nil]
      exact hclear
    · rw [List.append_nil]
      exact (List.append_nil _).symm
  · have hn : n ≠ 0 := mt (hclear.run_eq_zero_iff hcw).2 hrun
    have hsym : decide (5 * (Machine.clearStrobes r).run.toNat < 3 * (Machine.clearStrobes r).long.toNat) =
        decide (5 * n < 3 * r.long.toNat) := by
      rw [hclear.run]
      exact saturatedRunKeepsItsSymbol cw n r.long.toNat h.long_le
    rw [hsym]
    obtain ⟨_, hpub, hpacket⟩ := hclear.received.closeRun rfl (!(xor (decide (5 * n < 3 * r.long.toNat)) r.ctrlRev))
    exact ⟨_, 0, hpub, hclear.close rfl _, hpacket, refBits_of_run_end hv hn⟩

/-! ## The whole payload -/

/-- The samples of a payload against the loop of the reference function, by induction on their list: the same
symbols, of which the bytes are the packet. -/
theorem InPayload.scan {acc : Byte} (hcw : 0 < cw) (payload : List (BitVec sw)) {bits : List Bool} {n : Nat}
    {r : Regs sw cw} (h : InPayload acc bits n r) {syms : List Bool}
    (hsyms : refBits (payload.map sampleOf) r.vhigh.toInt r.long.toNat r.ctrlRev n = syms) :
    symbolsOf (payload.map Pins.ofSmp) r = syms ∧
      refPacket (bits ++ syms) r.ctrlInv = refPacket bits r.ctrlInv ++ bytesOf (payload.map Pins.ofSmp) r ∧
      SameFrame r (runPins (payload.map Pins.ofSmp) r) ∧
      Received acc (bits ++ syms) (runPins (payload.map Pins.ofSmp) r) := by
  induction payload generalizing bits n r syms with
  | nil =>
    subst hsyms
    simpa [refBits, symbolsOf, bytesOf, runPins, SameFrame.refl] using h.received
  | cons d payload ih =>
    obtain ⟨first, m, hpub, hin, hpacket, hloop⟩ := h.step hcw d
    have hsame := sameFrame_clock_of_ph3 d h.phase
    obtain ⟨hvhigh, hrev, hinv, hlong⟩ := hsame.reads
    obtain ⟨hrest, hbytes, hsame', hrec⟩ := ih hin rfl
    rw [hvhigh, hlong, hrev] at hrest hbytes hrec
    rw [hinv, hpacket] at hbytes
    rw [List.map_cons, hloop] at hsyms
    subst hsyms
    rw [List.map_cons, symbolsOf_cons, bytesOf_cons, runPins_cons, hpub, hrest, ← List.append_assoc, hbytes]
    exact ⟨rfl, List.append_assoc _ _ _, hsame.trans hsame', hrec⟩

end Sys2Proof.Machine
end

section
/-! PROOFS. A frame computes the reference function (44_frame_function.md R180 to R184). -/

namespace Sys2Proof.Machine

variable {sw cw : Nat}

/-! ## Comparing runs -/

/-- The steps `ps` from `r` end in the same registers, with the same symbols and bytes on the way, as `qs` from `q`.
-/
structure SameTrace (ps : List (Pins sw)) (r : Regs sw cw) (qs : List (Pins sw)) (q : Regs sw cw) : Prop where
  run : runPins ps r = runPins qs q
  symbols : symbolsOf ps r = symbolsOf qs q
  bytes : bytesOf ps r = bytesOf qs q

theorem SameTrace.refl (ps : List (Pins sw)) (r : Regs sw cw) : SameTrace ps r ps r := ⟨rfl, rfl, rfl⟩

theorem SameTrace.trans {ps qs qs' : List (Pins sw)} {r q q' : Regs sw cw} (h : SameTrace ps r qs q)
    (h' : SameTrace qs q qs' q') : SameTrace ps r qs' q' :=
  ⟨h.run.trans h'.run, h.symbols.trans h'.symbols, h.bytes.trans h'.bytes⟩

/-- A first step that leaves both taps silent can be taken off. -/
theorem sameTrace_of_silent {p : Pins sw} {r q : Regs sw cw} (h : clock p r = q) (hs : q.symValid = false)
    (hb : q.bValid = false) (ps : List (Pins sw)) : SameTrace (p :: ps) r ps q := by
  have hpub : q.published = [] := if_neg (by simp [hs])
  have hemit : q.emitted = [] := if_neg (by simp [hb])
  exact ⟨by rw [runPins_cons, h], by rw [symbolsOf_cons, h, hpub]; rfl, by rw [bytesOf_cons, h, hemit]; rfl⟩

/-- Registers from which the first step does the same have the same runs. -/
theorem sameTrace_of_clock_eq {p : Pins sw} {r q : Regs sw cw} (h : clock p r = clock p q) (ps : List (Pins sw)) :
    SameTrace (p :: ps) r (p :: ps) q :=
  ⟨by rw [runPins_cons, h, runPins_cons], by rw [symbolsOf_cons, h, symbolsOf_cons],
    by rw [bytesOf_cons, h, bytesOf_cons]⟩

/-- The steps `ps` from `r` end in the error `e` without a symbol or a byte (44_frame_function.md R182). -/
def Fails (e : WfdError) (ps : List (Pins sw)) (r : Regs sw cw) : Prop :=
  frameResult ps r = ⟨.err, errorCode e, []⟩ ∧ symbolsOf ps r = []

theorem Fails.of_sameTrace {e : WfdError} {ps qs : List (Pins sw)} {r q : Regs sw cw} (h : Fails e qs q)
    (hsame : SameTrace ps r qs q) : Fails e ps r := by
  rw [Fails, frameResult, hsame.run, hsame.symbols, hsame.bytes]
  exact h

/-- In `ERR` everything but `RST` and `START` is ignored (60_exceptions.md R202 item 5). -/
theorem fails_of_err {e : WfdError} (ps : List (Pins sw)) {r : Regs sw cw}
    (hps : ∀ p ∈ ps, p.rst = false ∧ p.start = false) (hp : r.phase = .err) (he : r.errCode = errorCode e) :
    Fails e ps r := by
  induction ps generalizing r with
  | nil => exact ⟨by simp [frameResult, runPins, bytesOf, hp, he], rfl⟩
  | cons p ps ih =>
    obtain ⟨⟨hrst, hstart⟩, hrest⟩ := List.forall_mem_cons.1 hps
    have hidle : withoutEffect p r = true := by simp [withoutEffect, hrst, hstart, hp, scanning]
    have htail : Fails e ps (clearStrobes r) := ih hrest hp he
    exact htail.of_sameTrace (sameTrace_of_silent (clock_of_withoutEffect hidle) rfl rfl ps)

/-- A step that raises, the taps silent, decides the outcome. -/
theorem fails_of_raise {e : WfdError} {p : Pins sw} {ps : List (Pins sw)} {r q : Regs sw cw} (h : clock p r = q)
    (hs : q.symValid = false) (hb : q.bValid = false) (hp : q.phase = .err) (he : q.errCode = errorCode e)
    (hps : ∀ p ∈ ps, p.rst = false ∧ p.start = false) : Fails e (p :: ps) r :=
  (fails_of_err ps hps hp he).of_sameTrace (sameTrace_of_silent h hs hb ps)

/-! ## The preamble of a frame (41_preamble_detector.md) -/

/-- The operands of `START` (40_control_ops.md R101). -/
structure Setup (sw : Nat) where
  vh : BitVec sw
  vl : BitVec sw
  rev : Bool
  inv : Bool
  verb : Bool

/-- The registers of a frame in its preamble: what `START` left, but for what Phases 1 and 2 have counted. -/
def Setup.preamble (c : Setup sw) (cw : Nat) (p : Phase) (start size : BitVec cw) (sat : Bool) : Regs sw cw :=
  { startFrame c.vh c.vl c.rev c.inv c.verb (Regs.reset sw cw) with
    phase := p, preStart := start, preSize := size, diagSat := sat }

section Preamble

variable (c : Setup sw) (start size : BitVec cw) (sat : Bool)

/-- `START` begins the frame with nothing counted. -/
theorem sameTrace_start (samples : List (BitVec sw)) (r : Regs sw cw) :
    SameTrace (framePins c.vh c.vl c.rev c.inv c.verb samples) r (frameTail samples) (c.preamble cw .ph1 0 0 false) :=
  sameTrace_of_silent rfl rfl rfl _

/-- A leading high sample is counted (41_preamble_detector.md R120). -/
theorem clock_high {d : BitVec sw} (hd : c.vh.toInt ≤ sampleOf d) :
    clock (Pins.ofSmp d) (c.preamble cw .ph1 start 0 sat) = c.preamble cw .ph1 (satInc start) 0 (satFlag start sat) :=
  smpPh1_of_high (r := c.preamble cw .ph1 start 0 sat) hd

/-- The first sample below `VHIGH` does what it does in Phase 2 (41_preamble_detector.md R121). -/
theorem clock_first_not_high {d : BitVec sw} (hd : sampleOf d < c.vh.toInt) :
    clock (Pins.ofSmp d) (c.preamble cw .ph1 start 0 sat) = clock (Pins.ofSmp d) (c.preamble cw .ph2 start 0 sat) :=
  smpPh1_of_stop (r := c.preamble cw .ph1 start 0 sat) hd

/-- A low sample is counted (41_preamble_detector.md R122). -/
theorem clock_low {d : BitVec sw} (hd : sampleOf d ≤ c.vl.toInt) (hroom : size ≠ cmax cw) :
    clock (Pins.ofSmp d) (c.preamble cw .ph2 start size sat) = c.preamble cw .ph2 start (size + 1) sat :=
  smpPh2_of_low (r := c.preamble cw .ph2 start size sat) hd hroom

/-- A low sample that `PRE_SIZE` has no room for raises (41_preamble_detector.md R123). -/
theorem clock_overflow {d : BitVec sw} (hd : sampleOf d ≤ c.vl.toInt) (hfull : size = cmax cw) :
    clock (Pins.ofSmp d) (c.preamble cw .ph2 start size sat) = raise .rangeError (c.preamble cw .ph2 start size sat) :=
  smpPh2_of_overflow (r := c.preamble cw .ph2 start size sat) hd hfull

/-- The first sample above `VLOW` is the stop sample (41_preamble_detector.md R124). -/
theorem clock_stop {d : BitVec sw} (hd : c.vl.toInt < sampleOf d) :
    clock (Pins.ofSmp d) (c.preamble cw .ph2 start size sat) = stopPh2 (c.preamble cw .ph2 start size sat) :=
  smpPh2_of_stop (r := c.preamble cw .ph2 start size sat) hd

end Preamble

/-- The leading high samples, by induction on their list: `PRE_START` is their number, saturated, and the flag says
whether it is (10_state.md R29, R37, R40). -/
theorem sameTrace_highs (c : Setup sw) (rest : List (BitVec sw)) (highs : List (BitVec sw))
    (hhigh : ∀ d ∈ highs, c.vh.toInt ≤ sampleOf d) {n : Nat} {start : BitVec cw}
    (hstart : start.toNat = min n (2 ^ cw - 1)) :
    ∃ start' : BitVec cw, start'.toNat = min (n + highs.length) (2 ^ cw - 1) ∧
      SameTrace (frameTail (highs ++ rest)) (c.preamble cw .ph1 start 0 (decide (2 ^ cw - 1 < n)))
        (frameTail rest) (c.preamble cw .ph1 start' 0 (decide (2 ^ cw - 1 < n + highs.length))) := by
  induction highs generalizing n start with
  | nil => exact ⟨start, hstart, .refl _ _⟩
  | cons d highs ih =>
    obtain ⟨hd, hrest⟩ := List.forall_mem_cons.1 hhigh
    have hcount : (satInc start).toNat = min (n + 1) (2 ^ cw - 1) := by rw [satInc_toNat, hstart]; omega
    have hfull : start = cmax cw ↔ 2 ^ cw - 1 ≤ n := by rw [eq_cmax_iff, hstart]; omega
    have hflag : satFlag start (decide (2 ^ cw - 1 < n)) = decide (2 ^ cw - 1 < n + 1) := by
      rw [satFlag, decide_eq_decide.2 hfull, ← Bool.decide_or, decide_eq_decide]
      omega
    have hfirst := clock_high c start (decide (2 ^ cw - 1 < n)) hd
    rw [hflag] at hfirst
    obtain ⟨start', hstart', htrace⟩ := ih hrest hcount
    have hlen : n + (d :: highs).length = n + 1 + highs.length := by rw [List.length_cons]; omega
    rw [hlen]
    exact ⟨start', hstart', (sameTrace_of_silent hfirst rfl rfl _).trans htrace⟩

/-- The low samples, where `PRE_SIZE` has room for them (41_preamble_detector.md R122). -/
theorem sameTrace_lows (c : Setup sw) (rest : List (BitVec sw)) (start : BitVec cw) (sat : Bool)
    (lows : List (BitVec sw)) (hlow : ∀ d ∈ lows, sampleOf d ≤ c.vl.toInt) {size : BitVec cw}
    (hroom : size.toNat + lows.length ≤ 2 ^ cw - 1) :
    ∃ size' : BitVec cw, size'.toNat = size.toNat + lows.length ∧
      SameTrace (frameTail (lows ++ rest)) (c.preamble cw .ph2 start size sat)
        (frameTail rest) (c.preamble cw .ph2 start size' sat) := by
  induction lows generalizing size with
  | nil => exact ⟨size, rfl, .refl _ _⟩
  | cons d lows ih =>
    obtain ⟨hd, hrest⟩ := List.forall_mem_cons.1 hlow
    rw [List.length_cons] at hroom
    have hne : size ≠ cmax cw := fun h => by have := (eq_cmax_iff size).1 h; omega
    have hcount := succ_toNat_of_ne_cmax size hne
    obtain ⟨size', hsize', htrace⟩ := ih hrest (size := size + 1) (by omega)
    refine ⟨size', by rw [hsize', hcount, List.length_cons]; omega, ?_⟩
    exact (sameTrace_of_silent (clock_low c start size sat hd hne) rfl rfl _).trans htrace

/-- The low samples, where they are too many for `PRE_SIZE` (41_preamble_detector.md R123). -/
theorem fails_of_too_many_lows (c : Setup sw) (rest : List (BitVec sw)) (start : BitVec cw) (sat : Bool)
    (lows : List (BitVec sw)) (hlow : ∀ d ∈ lows, sampleOf d ≤ c.vl.toInt) {size : BitVec cw}
    (hmany : 2 ^ cw - 1 < size.toNat + lows.length) :
    Fails .rangeError (frameTail (lows ++ rest)) (c.preamble cw .ph2 start size sat) := by
  induction lows generalizing size with
  | nil =>
    have hsize := size.isLt
    rw [List.length_nil] at hmany
    omega
  | cons d lows ih =>
    obtain ⟨hd, hrest⟩ := List.forall_mem_cons.1 hlow
    rw [List.length_cons] at hmany
    by_cases hfull : size = cmax cw
    · exact fails_of_raise (clock_overflow c start size sat hd hfull) rfl rfl rfl rfl (samples_end_no_start _)
    · have hcount := succ_toNat_of_ne_cmax size hfull
      exact (ih hrest (size := size + 1) (by omega)).of_sameTrace
        (sameTrace_of_silent (clock_low c start size sat hd hfull) rfl rfl _)

/-! ## A capture that ends in its preamble (40_control_ops.md R104, R105) -/

theorem fails_of_no_sample (c : Setup sw) (sat : Bool) :
    Fails .inputError (frameTail []) (c.preamble cw .ph1 0 0 sat) :=
  fails_of_raise (endPh1_of_no_sample (c.preamble cw .ph1 0 0 sat) rfl) rfl rfl rfl rfl (by simp)

theorem fails_of_highs_only (c : Setup sw) {start : BitVec cw} (h : start ≠ 0) (sat : Bool) :
    Fails .calibrationError (frameTail []) (c.preamble cw .ph1 start 0 sat) :=
  fails_of_raise (endPh1_of_samples (c.preamble cw .ph1 start 0 sat) h) rfl rfl rfl rfl (by simp)

theorem fails_of_no_stop (c : Setup sw) (start size : BitVec cw) (sat : Bool) :
    Fails .calibrationError (frameTail []) (c.preamble cw .ph2 start size sat) :=
  fails_of_raise (p := Pins.ofEnd sw) (q := raise .calibrationError (c.preamble cw .ph2 start size sat)) rfl rfl rfl rfl
    rfl (by simp)

/-- Too few low samples before the stop sample (41_preamble_detector.md R126, R127). -/
theorem fails_of_few_lows (c : Setup sw) (start size : BitVec cw) (sat : Bool) {d : BitVec sw} (rest : List (BitVec sw))
    (hd : c.vl.toInt < sampleOf d) (hfew : size.toNat < 11) :
    Fails .calibrationError (frameTail (d :: rest)) (c.preamble cw .ph2 start size sat) := by
  obtain ⟨_, _, _, _, _, _, ⟨hmin, _⟩ | ⟨_, e⟩⟩ := stopPh2_cases (c.preamble cw .ph2 start size sat)
  · exact absurd hfew (Nat.not_lt.2 hmin)
  · exact fails_of_raise ((clock_stop c start size sat hd).trans e) rfl rfl rfl rfl (samples_end_no_start _)

/-! ## A capture that calibrates -/

/-- What the stop sample leaves where there are enough low samples: a calibrated frame that has published nothing. -/
structure Calibrated (c : Setup sw) (n m : Nat) (q : Regs sw cw) : Prop where
  inPayload : InPayload 0 [] 0 q
  errCode : q.errCode = .none
  config : q.vhigh = c.vh ∧ q.ctrlRev = c.rev ∧ q.ctrlInv = c.inv
  preStart : q.preStart.toNat = min n (2 ^ cw - 1)
  preSize : q.preSize.toNat = m
  preEnd : q.preEnd.toNat = min (min n (2 ^ cw - 1) + m) (2 ^ cw - 1)
  short : q.short.toNat = m / 11
  long : q.long.toNat = m / 3
  diagSat : q.diagSat = false → n + m ≤ 2 ^ cw - 1

theorem sameTrace_stop (c : Setup sw) {start size : BitVec cw} {n : Nat} (hstart : start.toNat = min n (2 ^ cw - 1))
    (hsize : 11 ≤ size.toNat) {d : BitVec sw} (hd : c.vl.toInt < sampleOf d) (payload : List (BitVec sw)) :
    ∃ q : Regs sw cw, Calibrated c n size.toNat q ∧
      SameTrace (frameTail (d :: payload)) (c.preamble cw .ph2 start size (decide (2 ^ cw - 1 < n)))
        (frameTail payload) q := by
  obtain ⟨hrev, hinv, _⟩ := ctrlOf_getLsbD c.rev c.inv c.verb
  have hmax := size.isLt
  obtain ⟨e, sh, lo, he, hsh, hlo, ⟨_, heq⟩ | ⟨hfew, _⟩⟩ :=
    stopPh2_cases (c.preamble cw .ph2 start size (decide (2 ^ cw - 1 < n)))
  · have hclock := (clock_stop c start size (decide (2 ^ cw - 1 < n)) hd).trans heq
    have he' : e.toNat = min (start.toNat + size.toNat) (2 ^ cw - 1) := he
    have hsh' : sh.toNat = size.toNat / 11 := hsh
    have hlo' : lo.toNat = size.toNat / 3 := hlo
    refine ⟨_, ?_, sameTrace_of_silent hclock rfl rfl _⟩
    exact
      { inPayload := ⟨rfl, by show lo.toNat ≤ _; omega, by simp, rfl, rfl, rfl, by simp [Setup.preamble], by simp⟩
        errCode := rfl
        config := ⟨rfl, hrev, hinv⟩
        preStart := hstart
        preSize := rfl
        preEnd := by rw [← hstart]; exact he'
        short := hsh'
        long := hlo'
        diagSat := fun h => by
          have h' : (decide (2 ^ cw - 1 < n) || decide (2 ^ cw - 1 < start.toNat + size.toNat)) = false := h
          simp only [Bool.or_eq_false_iff, decide_eq_false_iff_not] at h'
          omega }
  · exact absurd hsize (Nat.not_le.2 hfew)

/-- What a frame leaves that reaches its end from a calibrated state: the packet of its symbols, and with `DIAG_SAT`
0 no counter has saturated. -/
structure Completes (c : Setup sw) (n m : Nat) (syms : List Bool) (ps : List (Pins sw)) (r : Regs sw cw) : Prop where
  symbols : symbolsOf ps r = syms
  result : frameResult ps r = ⟨.done, .none, refPacket syms c.inv⟩
  diagnostics : (runPins ps r).diagSat = false →
    (runPins ps r).preStart.toNat = n ∧ (runPins ps r).preSize.toNat = m ∧ (runPins ps r).preEnd.toNat = n + m ∧
      (runPins ps r).short.toNat = m / 11 ∧ (runPins ps r).long.toNat = m / 3 ∧
      (runPins ps r).byteCount.toNat = (refPacket syms c.inv).length

theorem Completes.of_sameTrace {c : Setup sw} {n m : Nat} {syms : List Bool} {ps qs : List (Pins sw)} {r q : Regs sw cw}
    (h : Completes c n m syms qs q) (hsame : SameTrace ps r qs q) : Completes c n m syms ps r where
  symbols := hsame.symbols.trans h.symbols
  result := by rw [frameResult, hsame.run, hsame.bytes]; exact h.result
  diagnostics := by rw [hsame.run]; exact h.diagnostics

theorem refPacket_length (bits : List Bool) (inv : Bool) : (refPacket bits inv).length = bits.tail.length / 8 := by
  rw [refPacket, List.length_map, List.length_range]

/-- From a calibrated state the payload and the end of the capture complete the frame. -/
theorem Calibrated.completes {c : Setup sw} {n m : Nat} {q : Regs sw cw} (h : Calibrated c n m q) (hcw : 0 < cw)
    (payload : List (BitVec sw)) :
    Completes c n m (refBits (payload.map sampleOf) c.vh.toInt (m / 3) c.rev 0) (frameTail payload) q := by
  obtain ⟨hvh, hrev, hinv⟩ := h.config
  obtain ⟨hsyms, hbytes, hsame, hrec⟩ := h.inPayload.scan hcw payload rfl
  rw [hvh, hrev, h.long] at hsyms hbytes hrec
  rw [hinv] at hbytes
  have hlast : (runPins (payload.map Pins.ofSmp) q).phase = .ph3 := hsame.phase.trans h.inPayload.phase
  have hrun : runPins (frameTail payload) q = setPhase .done (clearStrobes (runPins (payload.map Pins.ofSmp) q)) := by
    rw [runPins_frameTail]
    exact endCapture_of_ph3 (clearStrobes _) hlast
  refine ⟨(symbolsOf_frameTail payload q).trans hsyms, ?_, ?_⟩
  · have herr : (runPins (payload.map Pins.ofSmp) q).errCode = .none := hsame.errCode.trans h.errCode
    rw [frameResult, bytesOf_frameTail, hrun]
    simp only [setPhase_phase, setPhase_errCode, clearStrobes_errCode, herr, FrameResult.mk.injEq, true_and]
    exact hbytes.symm
  · rw [hrun]
    intro hsat
    have hpreamble := hsame.preamble
    simp only [Regs.preamble, Prod.mk.injEq] at hpreamble
    obtain ⟨hps, hpz, hpe, hsh, hlo⟩ := hpreamble
    have hsat' : (runPins (payload.map Pins.ofSmp) q).diagSat = false := hsat
    have hfits := h.diagSat (Bool.eq_false_iff.2 fun ht => by rw [hsame.diagSat ht] at hsat'; cases hsat')
    have hchunks := mt hrec.saturated (by simp [hsat'])
    have hcount := hrec.byteCount
    simp only [List.nil_append] at hchunks hcount
    have hstart := h.preStart
    have hend := h.preEnd
    simp only [setPhase_preStart, setPhase_preSize, setPhase_preEnd, setPhase_short, setPhase_long, setPhase_byteCount,
      clearStrobes_preStart, clearStrobes_preSize, clearStrobes_preEnd, clearStrobes_short, clearStrobes_long,
      clearStrobes_byteCount, hps, hpz, hpe, hsh, hlo, refPacket_length]
    exact ⟨by omega, h.preSize, by omega, h.short, h.long, by omega⟩

/-! ## The reference function's view of the capture (44_frame_function.md R180) -/

/-- A capture cut where the reference function's loops are left: the leading high samples, the low samples, and the
rest from the stop sample on. -/
structure Cut (c : Setup sw) (samples highs lows rest : List (BitVec sw)) : Prop where
  samples_eq : samples = highs ++ (lows ++ rest)
  high : ∀ d ∈ highs, c.vh.toInt ≤ sampleOf d
  low : ∀ d ∈ lows, sampleOf d ≤ c.vl.toInt
  not_high : ∀ d ∈ (lows ++ rest).head?, sampleOf d < c.vh.toInt
  stop : ∀ d ∈ rest.head?, c.vl.toInt < sampleOf d
  preStart : refPreStart (samples.map sampleOf) c.vh.toInt = highs.length
  size : refSize (samples.map sampleOf) c.vh.toInt c.vl.toInt = lows.length
  fromStop : refFromStop (samples.map sampleOf) c.vh.toInt c.vl.toInt = rest.map sampleOf

/-- The head of what `dropWhile` leaves fails the test. -/
theorem head_dropWhile {α : Type} (p : α → Bool) (l : List α) : ∀ a ∈ (l.dropWhile p).head?, p a = false := by
  intro a ha
  have hhead := List.head?_dropWhile_not p l
  rw [Option.mem_def.1 ha] at hhead
  exact hhead

/-- The tests of the two loops, on the samples of the pins. -/
def Setup.isHigh (c : Setup sw) (d : BitVec sw) : Bool := decide (c.vh.toInt ≤ sampleOf d)

def Setup.isLow (c : Setup sw) (d : BitVec sw) : Bool := decide (sampleOf d ≤ c.vl.toInt)

theorem refAfterHighs_map (c : Setup sw) (samples : List (BitVec sw)) :
    refAfterHighs (samples.map sampleOf) c.vh.toInt = (samples.dropWhile c.isHigh).map sampleOf :=
  List.dropWhile_map

/-- Every capture has such a cut. -/
theorem exists_cut (c : Setup sw) (samples : List (BitVec sw)) : ∃ highs lows rest, Cut c samples highs lows rest := by
  have hcut : (samples.dropWhile c.isHigh).takeWhile c.isLow ++ (samples.dropWhile c.isHigh).dropWhile c.isLow =
      samples.dropWhile c.isHigh := List.takeWhile_append_dropWhile
  refine ⟨samples.takeWhile c.isHigh, (samples.dropWhile c.isHigh).takeWhile c.isLow,
    (samples.dropWhile c.isHigh).dropWhile c.isLow, ?_⟩
  exact
    { samples_eq := by rw [hcut, List.takeWhile_append_dropWhile]
      high := fun d hd => of_decide_eq_true (List.mem_takeWhile_imp (p := c.isHigh) hd)
      low := fun d hd => of_decide_eq_true (List.mem_takeWhile_imp (p := c.isLow) hd)
      not_high := fun d hd => by
        rw [hcut] at hd
        exact Int.not_le.1 (of_decide_eq_false (head_dropWhile c.isHigh samples d hd))
      stop := fun d hd => Int.not_le.1 (of_decide_eq_false (head_dropWhile c.isLow _ d hd))
      preStart := by rw [refPreStart, refHighs, List.takeWhile_map, List.length_map]; rfl
      size := by rw [refSize, refAfterHighs_map, List.takeWhile_map, List.length_map]; rfl
      fromStop := by rw [refFromStop, refAfterHighs_map, List.dropWhile_map]; rfl }

/-! ## The frame against the reference (44_frame_function.md R183) -/

section Cuts

variable {c : Setup sw} {samples highs lows rest : List (BitVec sw)} (h : Cut c samples highs lows rest)

include h

/-- After its leading high samples a frame is in Phase 1 with their number counted. -/
theorem Cut.counts_highs (r : Regs sw cw) :
    ∃ start : BitVec cw, start.toNat = min highs.length (2 ^ cw - 1) ∧
      SameTrace (framePins c.vh c.vl c.rev c.inv c.verb samples) r (frameTail (lows ++ rest))
        (c.preamble cw .ph1 start 0 (decide (2 ^ cw - 1 < highs.length))) := by
  obtain ⟨start, hstart, htrace⟩ := 
    sameTrace_highs c (lows ++ rest) highs h.high (n := 0) (start := (0 : BitVec cw)) (by simp)
  rw [Nat.zero_add] at hstart htrace
  rw [decide_eq_false (Nat.not_lt_zero _), ← h.samples_eq] at htrace
  exact ⟨start, hstart, (sameTrace_start c samples r).trans htrace⟩

/-- A sample below `VHIGH` brings it into Phase 2. -/
theorem Cut.enters_ph2 (hne : lows ++ rest ≠ []) (r : Regs sw cw) :
    ∃ start : BitVec cw, start.toNat = min highs.length (2 ^ cw - 1) ∧
      SameTrace (framePins c.vh c.vl c.rev c.inv c.verb samples) r (frameTail (lows ++ rest))
        (c.preamble cw .ph2 start 0 (decide (2 ^ cw - 1 < highs.length))) := by
  obtain ⟨start, hstart, htrace⟩ := h.counts_highs r
  obtain ⟨d, t, hdt⟩ := List.exists_cons_of_ne_nil hne
  have hd : sampleOf d < c.vh.toInt := h.not_high d (by rw [hdt]; rfl)
  rw [hdt] at htrace ⊢
  exact ⟨start, hstart, htrace.trans (sameTrace_of_clock_eq (clock_first_not_high c start _ hd) _)⟩

/-- The low samples counted, it waits in Phase 2 for the stop sample. -/
theorem Cut.counts_lows (hne : lows ++ rest ≠ []) (hfits : lows.length ≤ 2 ^ cw - 1) (r : Regs sw cw) :
    ∃ start size : BitVec cw, start.toNat = min highs.length (2 ^ cw - 1) ∧ size.toNat = lows.length ∧
      SameTrace (framePins c.vh c.vl c.rev c.inv c.verb samples) r (frameTail rest)
        (c.preamble cw .ph2 start size (decide (2 ^ cw - 1 < highs.length))) := by
  obtain ⟨start, hstart, htrace⟩ := h.enters_ph2 hne r
  have hroom : (0 : BitVec cw).toNat + lows.length ≤ 2 ^ cw - 1 := by simpa using hfits
  obtain ⟨size, hsize, hlows⟩ := sameTrace_lows c rest start (decide (2 ^ cw - 1 < highs.length)) lows h.low hroom
  exact ⟨start, size, hstart, by simpa using hsize, htrace.trans hlows⟩

/-- No sample below `VHIGH`: InputError or CalibrationError (40_control_ops.md R104). -/
theorem Cut.fails_of_all_high (hcw : 0 < cw) (hnil : lows ++ rest = []) (r : Regs sw cw) :
    Fails (if samples = [] then .inputError else .calibrationError)
      (framePins c.vh c.vl c.rev c.inv c.verb samples) r := by
  obtain ⟨start, hstart, htrace⟩ := h.counts_highs r
  have hall : samples = highs := by rw [h.samples_eq, hnil, List.append_nil]
  rw [hnil] at htrace
  refine Fails.of_sameTrace ?_ htrace
  have hmax := Nat.one_lt_two_pow hcw.ne'
  by_cases hempty : samples = []
  · have hzero : start = 0 := BitVec.eq_of_toNat_eq (by rw [hstart, ← hall, hempty]; simp)
    rw [if_pos hempty, hzero]
    exact fails_of_no_sample c _
  · have hpos : 0 < highs.length := List.length_pos_iff.2 (hall ▸ hempty)
    have hne : start ≠ 0 := fun h0 => by rw [h0, BitVec.ofNat_eq_ofNat, BitVec.toNat_zero] at hstart; omega
    rw [if_neg hempty]
    exact fails_of_highs_only c hne _

/-- The frame of a capture ends as the reference function says, where the low run fits in `CMAX`. -/
theorem Cut.outcome (hcw : 0 < cw) (hfits : lows.length ≤ 2 ^ cw - 1) (r : Regs sw cw) :
    (∃ e, decodeRef (samples.map sampleOf) c.vh.toInt c.vl.toInt c.rev c.inv = .fails e ∧
      Fails e (framePins c.vh c.vl c.rev c.inv c.verb samples) r) ∨
    (decodeRef (samples.map sampleOf) c.vh.toInt c.vl.toInt c.rev c.inv =
        .packet (refPacket (refSymbols (samples.map sampleOf) c.vh.toInt c.vl.toInt c.rev) c.inv) ∧
      Completes c highs.length lows.length (refSymbols (samples.map sampleOf) c.vh.toInt c.vl.toInt c.rev)
        (framePins c.vh c.vl c.rev c.inv c.verb samples) r) := by
  have hsize := h.size
  have hstop := h.fromStop
  by_cases hnil : lows ++ rest = []
  · left
    obtain ⟨hlows, hrest⟩ := List.append_eq_nil_iff.1 hnil
    refine ⟨_, ?_, h.fails_of_all_high hcw hnil r⟩
    rw [decodeRef, hstop, hrest]
    by_cases hempty : samples = [] <;> simp [hempty]
  · have hsome : samples ≠ [] := fun h0 => hnil (List.append_eq_nil_iff.1 (h.samples_eq.symm.trans h0)).2
    obtain ⟨start, size, hstart, hcount, htrace⟩ := h.counts_lows hnil hfits r
    cases rest with
    | nil =>
      left
      refine ⟨.calibrationError, by simp [decodeRef, hstop, hsome], ?_⟩
      exact (fails_of_no_stop c start size _).of_sameTrace htrace
    | cons d payload =>
      have hd : c.vl.toInt < sampleOf d := h.stop d rfl
      by_cases hfew : lows.length < 11
      · left
        have hzero : lows.length / kShort = 0 := Nat.div_eq_of_lt hfew
        refine ⟨.calibrationError, by simp [decodeRef, hstop, hsome, hsize, hzero], ?_⟩
        exact (fails_of_few_lows c start size _ payload hd (by omega)).of_sameTrace htrace
      · right
        have hpass : ¬ (lows.length = 0 ∨ lows.length / kShort = 0 ∨ lows.length / kLong = 0) := by
          simp only [kShort, kLong]
          omega
        obtain ⟨q, hq, htrace'⟩ := sameTrace_stop c (size := size) hstart (by omega) hd payload
        rw [hcount] at hq
        have hsyms : refSymbols (samples.map sampleOf) c.vh.toInt c.vl.toInt c.rev =
            refBits (payload.map sampleOf) c.vh.toInt (lows.length / 3) c.rev 0 := by
          rw [refSymbols, hstop, hsize]
          rfl
        constructor
        · rw [decodeRef, hsize, hstop, if_neg (by simpa using hsome), if_neg (by simp), if_neg hpass]
        · rw [hsyms]
          exact (hq.completes hcw payload).of_sameTrace (htrace.trans htrace')

/-- A low run too long for `CMAX` ends in RangeError. -/
theorem Cut.fails_of_overflow (hover : 2 ^ cw - 1 < lows.length) (r : Regs sw cw) :
    Fails .rangeError (framePins c.vh c.vl c.rev c.inv c.verb samples) r := by
  have hne : lows ++ rest ≠ [] := by
    intro hnil
    rw [(List.append_eq_nil_iff.1 hnil).1] at hover
    simp at hover
  obtain ⟨start, _, htrace⟩ := h.enters_ph2 hne r
  have hmany : 2 ^ cw - 1 < (0 : BitVec cw).toNat + lows.length := by simpa using hover
  exact (fails_of_too_many_lows c rest start _ lows h.low hmany).of_sameTrace htrace

end Cuts

/-- Settles O53: the capture cut where the reference's loops are left, each piece is one phase of the frame. -/
theorem frameComputesTheReferenceFunction : Obligations.FrameComputesTheReferenceFunction := by
  intro sw cw vh vl rev inv verb samples r ⟨_, hcw⟩
  obtain ⟨highs, lows, rest, hcut⟩ := exists_cut ⟨vh, vl, rev, inv, verb⟩ samples
  refine ⟨fun hfits => ?_, fun hover => ?_⟩
  · rw [hcut.size] at hfits
    rcases hcut.outcome (by omega) hfits r with ⟨e, href, hfails⟩ | ⟨href, hdone⟩
    · rw [href]
      exact hfails
    · rw [href]
      exact ⟨hdone.result, hdone.symbols⟩
  · rw [hcut.size] at hover
    exact hcut.fails_of_overflow hover r

/-- Settles O54: a frame that ends in `DONE` has not failed, so it has completed. -/
theorem doneFrameShowsTheReferenceDiagnostics : Obligations.DoneFrameShowsTheReferenceDiagnostics := by
  intro sw cw vh vl rev inv verb samples r f ⟨_, hcw⟩ hf hdone hsat
  obtain ⟨highs, lows, rest, hcut⟩ := exists_cut ⟨vh, vl, rev, inv, verb⟩ samples
  have hnot (e : WfdError) : ¬ Fails e (framePins vh vl rev inv verb samples) r := by
    rintro ⟨hresult, _⟩
    have hphase := congrArg FrameResult.phase hresult
    simp [frameResult, hf, hdone] at hphase
  have hfits : lows.length ≤ 2 ^ cw - 1 := by
    by_contra hover
    exact hnot _ (hcut.fails_of_overflow (Nat.not_le.1 hover) r)
  rcases hcut.outcome (by omega) hfits r with ⟨e, _, hfails⟩ | ⟨_, hcompletes⟩
  · exact absurd hfails (hnot e)
  · have hdiag := hcompletes.diagnostics
    rw [hf] at hdiag
    rw [refPreEnd, hcut.preStart, hcut.size]
    exact hdiag hsat

end Sys2Proof.Machine
end
